-- ==== Sys2Proof/Word.lean ====
section
/-!
DEFINITION. The plain words of the 8532: bytes, line levels, the numbers that name stations, groups,
slots and sequences, and the two kinds of set the formats of chapter 11 give as bit masks.
-/
namespace Sys2Proof

/-- A byte of a host transaction or of a payload (chapter 11). -/
abbrev Byte := BitVec 8

/-- A line level, read as the bit it stands for (R1): dominant is 0, recessive is 1. -/
abbrev Level := Bool

/-- The dominant level, bit 0 (R1). -/
abbrev dominant : Level := false

/-- The recessive level, bit 1 (R1). -/
abbrev recessive : Level := true

/-- A station number, 0 to 31 (R18, Table 2-1). -/
abbrev StationId := Fin 32

/-- A group number, 0 to 7 (R18, Table 2-1). -/
abbrev GroupId := Fin 8

/-- A sequence number; its addition and subtraction are modulo 8, as R100 and R130 require. -/
abbrev Seq := Fin 8

/-- The number of a place in the parcel store, 0 to 39 (R83). -/
abbrev SlotId := Fin 40

/-- A round-robin position: a peer's station number, or 32 for the group lane (R42, R44). -/
abbrev Position := Fin 33

/-- A ticket, the 16-bit number of chapter 11; parcels carry 1 to 65535 (R87). -/
abbrev Ticket := BitVec 16

/-- A set of groups, bit g set for group g (Table 11-3, Table 9-6). -/
abbrev GroupSet := BitVec 8

/-- A set of stations, bit s set for station s (section 11.3, REPORT reply data). -/
abbrev StationSet := BitVec 32

end Sys2Proof
end

