-- ==== Sys2Proof/Config.lean ====
section
/-!
DEFINITION. The fixed numbers of the part, each with the rule that gives it, and the values the model
names where the manual gives none at reset. The manual leaves no result undefined, so there is no free value.
-/
namespace Sys2Proof.Config

/-- A recessive run of this length makes the line QUIET (R12). -/
abbrev quietLength : Nat := 10

/-- A recessive run of this length gives the long-quiet event (R14). -/
abbrev longQuietLength : Nat := 24

/-- A dominant run of this length makes the line HELD, and run lengths stay at this value (R9, R12). -/
abbrev heldLength : Nat := 32

/-- A dominant run of this length gives VIOLATION (R11). -/
abbrev dominantLimit : Nat := 5

/-- A completed recessive run of this length gives MARK (R11). -/
abbrev markRun : Nat := 6

/-- A recessive run of this length gives VIOLATION (R11). -/
abbrev recessiveLimit : Nat := 7

/-- The run length after which the next line bit is a stuff bit (R6). -/
abbrev stuffRun : Nat := 4

/-- Line bits the Frame Receiver holds back (R26). -/
abbrev holdBack : Nat := 7

/-- Largest frame content (R18). -/
abbrev maxContent : Nat := 554

/-- Smallest frame content (R18, R29). -/
abbrev minContent : Nat := 42

/-- Largest payload (R18). -/
abbrev maxPayload : Nat := 64

/-- Dominant bits of a break-off (R8). -/
abbrev breakoffLength : Nat := 12

/-- Content bits of the arbitration field (R19). -/
abbrev arbitrationLength : Nat := 7

/-- Consecutive failures that take the station off the line (R54). -/
abbrev failureLimit : Nat := 8

/-- Roll timer expiries without a frame after which a peer is lost (R68). -/
abbrev silenceLimit : Nat := 3

/-- Most outbound parcels held at once (R86). -/
abbrev outboundCap : Nat := 32

/-- Most entries of the answer queue (R136). -/
abbrev answerCap : Nat := 8

/-- Most notice entries of the report list (R185). -/
abbrev noticeCap : Nat := 16

/-- The hold count at which a further HOLD breaks the session (R115). -/
abbrev holdLimit : Nat := 15

/-- Largest argument length of a complete transaction (R161). -/
abbrev maxArguments : Nat := 72

/-- DESIGN CHOICE (log 1): the level of ADDR4..0 that `State.reset` has sampled. -/
abbrev resetStation : StationId := 0

/-- DESIGN CHOICE (log 1): the level of RATE1..0 that `State.reset` has sampled. -/
abbrev resetRate : Fin 4 := 0

end Sys2Proof.Config
end

