-- ==== Sys2Proof/Syntax.lean ====
section
/-!
DEFINITION. The commands and events of the 8532, one constructor for each row of spec/opcode_table.json,
and the frames that some of them carry. A row's operands are what reaches the part from outside with it:
the bytes of the host's transaction, the fields of the frame that closes, the level of the line, the straps.
-/
namespace Sys2Proof

/-- The kind of frame an ANSWER answers (R22, Table 11-2). -/
inductive Subject where
  | data | group | openReq
  deriving DecidableEq, Repr

/-- The code of an ANSWER (R22, Table 11-2). -/
inductive AnswerCode where
  | taken | gap | hold | noSession | refused
  deriving DecidableEq, Repr

/-- The header and payload of a frame as raw fields (R18, Table 2-1). The length field is the number of
payload bytes and the CRC is computed from these fields, so neither stands here. -/
structure Frame where
  cls     : Fin 4
  src     : StationId
  dst     : Fin 64
  kind    : Fin 8
  seq     : Seq
  payload : List Byte
  deriving DecidableEq, Repr

/-- A frame of one of the five kinds with its fields decoded (R20, Table 2-2). -/
inductive Msg where
  /-- DATA, of class 2 when `urgent` and of class 3 otherwise. -/
  | data (urgent : Bool) (src dst : StationId) (seq : Seq) (payload : List Byte)
  /-- GROUP to group `g`, of class 2 when `urgent` and of class 3 otherwise. -/
  | group (urgent : Bool) (src : StationId) (g : GroupId) (seq : Seq) (payload : List Byte)
  /-- ANSWER; `number` is the header's sequence field (R22). -/
  | answer (src dst : StationId) (subject : Subject) (code : AnswerCode) (number : Seq)
  /-- OPEN; its sequence field is no number and is not examined (R20). -/
  | openReq (src dst : StationId) (seq : Seq)
  /-- ROLL; `flags` is payload byte 1 with JOINED in bit 7 and PARTING in bit 6 (Table 11-3). -/
  | roll (src : StationId) (seq : Seq) (groups : GroupSet) (flags : Byte)
  deriving DecidableEq, Repr

/-- One command or event. Each constructor is one row of spec/opcode_table.json; its docstring names the row.
`tag` is the tag byte of the host's transaction (R161). -/
inductive Instr where
  /-- HARDWARE_RESET: RSTN goes low. -/
  | hardwareReset
  /-- HARDWARE_RESET_END: RSTN rises with these levels on ADDR4..0 and RATE1..0. -/
  | hardwareResetEnd (addr : StationId) (rate : Fin 4)
  /-- INCOMPLETE_TRANSACTION: CSN rises after these whole bytes. -/
  | incompleteTransaction (bytes : List Byte)
  /-- BAD_COMMAND: a complete transaction with this code and these arguments. -/
  | badCommand (tag code : Byte) (args : List Byte)
  /-- NOP. -/
  | nop (tag : Byte)
  /-- STATUS. -/
  | status (tag : Byte)
  /-- PEER with its one argument. -/
  | peer (tag number : Byte)
  /-- CONFIGURE with its five arguments in the order of Table 9-6. -/
  | configure (tag rollInterval answerWait retryLimit window groups : Byte)
  /-- JOIN. -/
  | join (tag : Byte)
  /-- LEAVE. -/
  | leave (tag : Byte)
  /-- RESUME. -/
  | resume (tag : Byte)
  /-- RESTART, executing while the straps stand at these levels. -/
  | restart (tag : Byte) (addr : StationId) (rate : Fin 4)
  /-- POST: destination byte, priority byte, payload. -/
  | post (tag dest priority : Byte) (payload : List Byte)
  /-- CANCEL of a ticket. -/
  | cancel (tag : Byte) (ticket : Ticket)
  /-- FETCH. -/
  | fetch (tag : Byte)
  /-- REPORT. -/
  | report (tag : Byte)
  /-- LINE_QUIET: the recessive sample that brings the run to 10. -/
  | lineQuiet
  /-- START_POINT: the boundary of a bit that left the quiet run at 10 or more. -/
  | startPoint
  /-- LOST_CONTENTION: a bit driven recessive in CONTEND reads back dominant. -/
  | lostContention
  /-- MISMATCH: a readback mismatch in SEND, or a dominant bit read back recessive in CONTEND. -/
  | mismatch
  /-- BREAKOFF_END: the boundary after the twelfth dominant bit. -/
  | breakoffEnd
  /-- SENT: the final bit of the closing mark reads back dominant. -/
  | sent
  /-- LINE_HELD: the dominant sample that brings the run to 32. -/
  | lineHeld
  /-- LINE_RELEASED: the first recessive sample after HELD. -/
  | lineReleased
  /-- LONG_QUIET: the recessive sample that brings the quiet run to 24. -/
  | longQuiet
  /-- FRAME_VIOLATION: a sample of this level that gives VIOLATION or shows a stuff error in GATHER. -/
  | frameViolation (level : Level)
  /-- OPENING_MARK: the dominant sample that carries MARK in SEEK. -/
  | openingMark
  /-- FRAME_CLOSE: the dominant sample that carries MARK in GATHER, closing the gathered frame. -/
  | frameClose
  /-- CLASH: a valid frame closes that bears the own number and was not sent by this station. The source field
  of `m` is not read: the own number stands in its place. -/
  | clash (m : Msg)
  /-- ROLL: a valid ROLL closes. -/
  | roll (src : StationId) (seq : Seq) (groups : GroupSet) (flags : Byte)
  /-- OPEN: a valid OPEN closes. -/
  | openFrame (src dst : StationId) (seq : Seq)
  /-- DATA: a valid DATA frame closes. -/
  | data (urgent : Bool) (src dst : StationId) (seq : Seq) (payload : List Byte)
  /-- GROUP: a valid GROUP frame closes. -/
  | group (urgent : Bool) (src : StationId) (g : GroupId) (seq : Seq) (payload : List Byte)
  /-- ANSWER_DATA: a valid ANSWER with subject DATA closes. -/
  | answerData (src dst : StationId) (code : AnswerCode) (number : Seq)
  /-- ANSWER_OPEN: a valid ANSWER with subject OPEN closes. -/
  | answerOpen (src dst : StationId) (code : AnswerCode) (number : Seq)
  /-- ANSWER_GROUP: a valid ANSWER with subject GROUP closes. -/
  | answerGroup (src dst : StationId) (code : AnswerCode) (number : Seq)
  /-- JOIN_TIMER_EXPIRY. -/
  | joinTimerExpiry
  /-- ROLL_TIMER_EXPIRY. -/
  | rollTimerExpiry
  /-- LEAVE_TIMER_EXPIRY. -/
  | leaveTimerExpiry
  /-- OPEN_ANSWER_TIMER_EXPIRY: the answer timer of the session to `p`, in OPENING. -/
  | openAnswerTimerExpiry (p : StationId)
  /-- ANSWER_TIMER_EXPIRY: the answer timer of the session to `p`, in OPEN. -/
  | answerTimerExpiry (p : StationId)
  /-- HOLD_TIMER_EXPIRY: the hold timer of the session to `p`. -/
  | holdTimerExpiry (p : StationId)
  /-- LANE_ANSWER_TIMER_EXPIRY. -/
  | laneAnswerTimerExpiry
  /-- LINE_SAMPLE: the sample of the current bit takes this level. -/
  | lineSample (level : Level)
  /-- RESYNCHRONISATION: a recessive-to-dominant edge on LIN, this many CLKIN periods into the current bit. -/
  | resynchronisation (clocks : Nat)
  /-- CSN_FALL: CSN falls and a transaction begins. -/
  | csnFall
  deriving DecidableEq, Repr

end Sys2Proof
end

