-- ==== Sys2Proof/Machine/FrameCode.lean ====
section
/-!
DEFINITION. The frame code of chapters 1, 2 and 11: fields as bits, the CRC, stuffing, the line bits of an
attempt, and the reading of gathered content back into a frame with the checks of section 2.4.
-/
namespace Sys2Proof

/-! ## Bits and fields -/

/-- The low `w` bits of `n`, most significant first (R18). -/
def bitsOf : Nat → Nat → List Bool
  | 0, _ => []
  | w + 1, n => n.testBit w :: bitsOf w n

/-- The number whose bits, most significant first, are given. -/
def natOf (bits : List Bool) : Nat :=
  bits.foldl (fun a b => 2 * a + b.toNat) 0

/-- The field of width `w` that begins after `off` content bits. -/
def fieldAt (bits : List Bool) (off w : Nat) : Nat :=
  natOf ((bits.drop off).take w)

/-- The bits of bytes in order, bit 7 of each first (Table 11-1). -/
def bytesBits (bytes : List Byte) : List Bool :=
  bytes.flatMap fun b => bitsOf 8 b.toNat

/-- The first `n` bytes of a bit sequence. -/
def bytesOf : Nat → List Bool → List Byte
  | 0, _ => []
  | n + 1, bits => BitVec.ofNat 8 (natOf (bits.take 8)) :: bytesOf n (bits.drop 8)

/-! ## Content (R18, R20, R21) -/

/-- The 26 header bits (Table 11-1). -/
def Frame.headerBits (f : Frame) : List Bool :=
  bitsOf 2 f.cls.val ++ bitsOf 5 f.src.val ++ bitsOf 6 f.dst.val ++ bitsOf 3 f.kind.val ++ bitsOf 3 f.seq.val ++
    bitsOf 7 f.payload.length

/-- One bit through the CRC accumulator (R21). -/
def crcStep (acc : BitVec 16) (b : Bool) : BitVec 16 :=
  if acc.msb != b then (acc <<< 1) ^^^ 0x1021#16 else acc <<< 1

/-- The CRC of header and payload bits; the accumulator starts at all ones (R21). -/
def crcOf (bits : List Bool) : BitVec 16 :=
  bits.foldl crcStep 0xFFFF#16

/-- Header and payload bits, the part of the content that the CRC covers. -/
def Frame.bodyBits (f : Frame) : List Bool :=
  f.headerBits ++ bytesBits f.payload

/-- The content of a frame: header, payload, CRC (R18). -/
def Frame.content (f : Frame) : List Bool :=
  f.bodyBits ++ bitsOf 16 (crcOf f.bodyBits).toNat

/-! ## The line code (R5, R6) -/

/-- One line bit of an attempt: its level, and whether it is a content bit. -/
structure LineBit where
  level     : Level
  isContent : Bool
  deriving DecidableEq, Repr

/-- A mark: one dominant bit, six recessive bits, one dominant bit, none of them content (R5). -/
def markBits : List LineBit :=
  ⟨dominant, false⟩ :: (List.replicate 6 ⟨recessive, false⟩ ++ [⟨dominant, false⟩])

/-- Content with its stuff bits, after a run of `n` bits of value `v` (R6). -/
def stuffFrom (v : Level) (n : Nat) : List Bool → List LineBit
  | [] => []
  | b :: bs =>
    let n' := if b = v then n + 1 else 1
    if n' = Config.stuffRun then ⟨b, true⟩ :: ⟨!b, false⟩ :: stuffFrom (!b) 1 bs
    else ⟨b, true⟩ :: stuffFrom b n' bs

/-- The content of a frame as it goes onto the line: the count begins at 1 with the final dominant bit of the mark (R6). -/
def Frame.stuffed (f : Frame) : List LineBit :=
  stuffFrom dominant 1 f.content

/-- Every line bit of an attempt, opening mark to closing mark (R5). -/
def Frame.lineBits (f : Frame) : List LineBit :=
  markBits ++ f.stuffed ++ markBits

/-! ## Encodings of names (Tables 11-1 and 11-2) -/

/-- The subject nibble of Table 11-2. -/
def Subject.toNat : Subject → Nat
  | .data => 0
  | .group => 1
  | .openReq => 3

/-- The code nibble of Table 11-2. -/
def AnswerCode.toNat : AnswerCode → Nat
  | .taken => 0
  | .gap => 1
  | .hold => 2
  | .noSession => 3
  | .refused => 4

/-- The subject a nibble names (R190). -/
def subjectOf : Nat → Option Subject
  | 0 => some .data
  | 1 => some .group
  | 3 => some .openReq
  | _ => none

/-- The code a nibble names (R190). -/
def answerCodeOf : Nat → Option AnswerCode
  | 0 => some .taken
  | 1 => some .gap
  | 2 => some .hold
  | 3 => some .noSession
  | 4 => some .refused
  | _ => none

/-- The payload byte of an ANSWER (Table 11-2). -/
def answerByte (subject : Subject) (code : AnswerCode) : Byte :=
  BitVec.ofNat 8 (16 * Subject.toNat subject + AnswerCode.toNat code)

/-- JOINED, bit 7 of ROLL byte 1 (Table 11-3). -/
def joinedFlag (flags : Byte) : Bool := flags.getLsbD 7

/-- PARTING, bit 6 of ROLL byte 1 (Table 11-3). -/
def partingFlag (flags : Byte) : Bool := flags.getLsbD 6

/-- ROLL byte 1 as the 8532 sends it: bits 5 to 0 are 0 (R190). -/
def rollFlags (joined parting : Bool) : Byte :=
  BitVec.ofNat 8 (128 * joined.toNat + 64 * parting.toNat)

/-! ## Frames by kind (Table 2-2) -/

/-- The class of a data frame: 2 for URGENT, 3 for NORMAL (R20). -/
def dataClass (urgent : Bool) : Fin 4 :=
  if urgent then 2 else 3

/-- A station as a destination field (Table 2-1). -/
def stationDst (p : StationId) : Fin 64 :=
  ⟨p.val, by omega⟩

/-- Group `g` as a destination field, 32 + g (Table 2-1). -/
def groupDst (g : GroupId) : Fin 64 :=
  ⟨32 + g.val, by omega⟩

/-- The raw fields of a frame of each kind (Table 2-2). -/
def Msg.toFrame : Msg → Frame
  | .data u src dst q payload => ⟨dataClass u, src, stationDst dst, 0, q, payload⟩
  | .group u src g q payload => ⟨dataClass u, src, groupDst g, 1, q, payload⟩
  | .answer src dst subject code n => ⟨0, src, stationDst dst, 2, n, [answerByte subject code]⟩
  | .openReq src dst q => ⟨1, src, stationDst dst, 3, q, []⟩
  | .roll src q groups flags => ⟨1, src, 63, 4, q, [groups, flags]⟩

/-- The source field of a frame. -/
def Msg.src : Msg → StationId
  | .data _ src _ _ _ => src
  | .group _ src _ _ _ => src
  | .answer src _ _ _ _ => src
  | .openReq src _ _ => src
  | .roll src _ _ _ => src

/-- The same frame with another source field. -/
def Msg.withSrc (p : StationId) : Msg → Msg
  | .data u _ dst q payload => .data u p dst q payload
  | .group u _ g q payload => .group u p g q payload
  | .answer _ dst subject code n => .answer p dst subject code n
  | .openReq _ dst q => .openReq p dst q
  | .roll _ q groups flags => .roll p q groups flags

/-- A frame of class 2 or 3 (R36, deferral step). -/
def Msg.isDataClass : Msg → Bool
  | .data .. => true
  | .group .. => true
  | _ => false

/-- The conditions of Table 2-6 that a decoded frame may still fail. -/
def Msg.valid : Msg → Bool
  | .data _ src dst _ payload => dst != src && decide (payload.length ≤ Config.maxPayload)
  | .group _ _ _ _ payload => decide (payload.length ≤ Config.maxPayload)
  | .answer src dst _ _ _ => dst != src
  | .openReq src dst _ => dst != src
  | .roll _ _ _ flags => !(joinedFlag flags && partingFlag flags)

/-! ## The consistency check (R31, R190) -/

/-- A destination field that names a station. -/
def stationOf (d : Fin 64) : Option StationId :=
  if h : d.val < 32 then some ⟨d.val, h⟩ else none

/-- A destination field that names a group. -/
def groupOf (d : Fin 64) : Option GroupId :=
  if h : 32 ≤ d.val ∧ d.val < 40 then some ⟨d.val - 32, by omega⟩ else none

/-- The priority that a class field of 2 or 3 gives. -/
def urgentOf (c : Fin 4) : Option Bool :=
  if c = 2 then some true else if c = 3 then some false else none

/-- A frame's fields read by their kind, `none` where class, destination, length or payload is not one that
Table 2-6 gives the kind. -/
def Frame.read (f : Frame) : Option Msg :=
  match f.kind.val with
  | 0 => do
    let u ← urgentOf f.cls
    let d ← stationOf f.dst
    return .data u f.src d f.seq f.payload
  | 1 => do
    let u ← urgentOf f.cls
    let g ← groupOf f.dst
    return .group u f.src g f.seq f.payload
  | 2 =>
    match f.payload with
    | [b] => do
      let d ← if f.cls = 0 then stationOf f.dst else none
      let subject ← subjectOf (b.toNat / 16)
      let code ← answerCodeOf (b.toNat % 16)
      return .answer f.src d subject code f.seq
    | _ => none
  | 3 =>
    match f.payload with
    | [] => do
      let d ← if f.cls = 1 then stationOf f.dst else none
      return .openReq f.src d f.seq
    | _ => none
  | 4 =>
    match f.payload with
    | [groups, flags] => if f.cls = 1 ∧ f.dst = 63 then some (.roll f.src f.seq groups flags) else none
    | _ => none
  | _ => none

/-- The consistency check: the decoded frame when every condition of Table 2-6 is met (R31). -/
def Frame.check (f : Frame) : Option Msg :=
  f.read.filter Msg.valid

/-! ## The checks on a closed frame (R29, R30) -/

/-- The frame that content of `26 + 8 L` or more bits holds, for a length field of L (Table 11-1). -/
def frameOfContent (c : List Bool) : Frame :=
  { cls := Fin.ofNat 4 (fieldAt c 0 2), src := Fin.ofNat 32 (fieldAt c 2 5), dst := Fin.ofNat 64 (fieldAt c 7 6),
    kind := Fin.ofNat 8 (fieldAt c 13 3), seq := Fin.ofNat 8 (fieldAt c 16 3),
    payload := bytesOf (fieldAt c 19 7) (c.drop 26) }

/-- The checks at the closing mark in the order of Table 2-5: the tail's stuffing, the minimum size, the CRC
against the accumulator, the length agreement, the consistency. -/
def checkClosed (stuffDue : Bool) (crc : BitVec 16) (c : List Bool) : Option Msg :=
  if stuffDue then none
  else if c.length < Config.minContent then none
  else if natOf (c.drop (c.length - 16)) ≠ crc.toNat then none
  else if c.length ≠ 42 + 8 * fieldAt c 19 7 then none
  else (frameOfContent c).check

end Sys2Proof
end

