-- ==== Sys2Proof/Machine/State.lean ====
section
/-!
DEFINITION. The state of the 8532, block by block as Table 0-1 gives the blocks, with the reset values of each
block's own table, and the queue of commands that wait. Everything is plain data.
-/
namespace Sys2Proof.Machine

open Sys2Proof

/-! ## Stops -/

/-- The part never stops with a fault: no rule of the manual makes an event stop the machine, so there is no constructor. -/
inductive Fault where
  deriving DecidableEq, Repr

/-- Why a command has no meaning. -/
inductive Refusal where
  /-- Raised by `exec` for a row that has no meaning yet; safe, since nothing can be proved of what it does. No arm uses it. -/
  | notModelled (mnemonic : String)
  deriving DecidableEq, Repr

/-! ## Line Monitor (R9) -/

/-- The line state of Table 1-3. -/
inductive LineState where
  | quiet | active | held
  deriving DecidableEq, Repr

/-- The Line Monitor record of Table 1-3, with the bit phase of R3. -/
structure LineMonitor where
  line      : LineState
  /-- The run polarity; `none` stands for NONE. -/
  polarity  : Option Level
  runLength : Nat
  firstRun  : Bool
  quietRun  : Nat
  /-- R3: the sample point of the current bit has passed. -/
  sampled   : Bool
  deriving DecidableEq, Repr

/-- Table 1-3, reset column. The first bit begins at the reset's end (R3), so it is not sampled. -/
def LineMonitor.reset : LineMonitor :=
  { line := .active, polarity := none, runLength := 0, firstRun := true, quietRun := 0, sampled := false }

/-! ## Frame Receiver (R24) -/

/-- The receiver state of Table 2-3. -/
inductive ReceiverState where
  | seek | gather
  deriving DecidableEq, Repr

/-- The Frame Receiver record of Table 2-3. -/
structure FrameReceiver where
  state    : ReceiverState
  holdBack : List Level
  /-- Value of the run of released bits that the stuff count counts. -/
  runValue : Level
  /-- Length of that run, 1 to 4. -/
  runCount : Nat
  stuffDue : Bool
  content  : List Bool
  crc      : BitVec 16
  deriving DecidableEq, Repr

/-- Table 2-3, reset column. -/
def FrameReceiver.reset : FrameReceiver :=
  { state := .seek, holdBack := [], runValue := dominant, runCount := 1, stuffDue := false, content := [],
    crc := 0xFFFF }

/-! ## Transmit Unit (R39) -/

/-- The transmitter state of Table 3-1. -/
inductive TransmitState where
  | wait | contend | send | breakoff
  deriving DecidableEq, Repr

/-- The item of its owner that an attempt sends (Table 3-5). -/
inductive Owner where
  /-- The answer-queue entry that is marked on-line. -/
  | answer
  /-- The roll request; `joined` when the roll carries JOINED (R69). -/
  | roll (joined : Bool)
  /-- The OPEN of the tx session to `p`. -/
  | openReq (p : StationId)
  /-- The window entry of the tx session to `p` with sequence `q`. -/
  | window (p : StationId) (q : Seq)
  /-- The lane's parcel, by its slot and group sequence (R149). -/
  | lane (k : SlotId) (q : Seq)
  deriving DecidableEq, Repr

/-- The one-frame transmit buffer of Table 3-1. -/
structure TransmitBuffer where
  frame    : Frame
  owner    : Owner
  /-- Present for a data frame (R45). -/
  position : Option Position
  deriving DecidableEq, Repr

/-- The Transmit Unit record of Table 3-1, with the level of LOUT, which the Transmit Unit sets (R1). -/
structure TransmitUnit where
  state    : TransmitState
  buffer   : Option TransmitBuffer
  /-- Line bits of the attempt driven and read back so far. -/
  lineBits : Nat
  /-- Arbitration content bits sent, 0 to 7. -/
  arbitrationBits : Nat
  breakoffBits : Nat
  pointer  : Position
  deferred : Bool
  failures : Nat
  /-- The level on LOUT now. -/
  lout     : Level
  deriving DecidableEq, Repr

/-- Table 3-1, reset column; LOUT is released (R1). -/
def TransmitUnit.reset : TransmitUnit :=
  { state := .wait, buffer := none, lineBits := 0, arbitrationBits := 0, breakoffBits := 0, pointer := 0,
    deferred := false, failures := 0, lout := recessive }

/-! ## Membership Unit (R61) -/

/-- The station state of Table 4-1. -/
inductive StationState where
  | detached | joining | member | leaving | silenced | halted
  deriving DecidableEq, Repr

/-- The roll-on-line field of Table 4-1. -/
inductive RollOnLine where
  | off | ordinary | part
  deriving DecidableEq, Repr

/-- The Membership Unit record of Table 4-1, less the peer table. A timer is `none` when stopped and `some n`
when running; `n` is the milliseconds it was started with (log 3). -/
structure MembershipUnit where
  station       : StationState
  number        : StationId
  rate          : Fin 4
  joinTimer     : Option Nat
  rollTimer     : Option Nat
  leaveTimer    : Option Nat
  leaveExpired  : Bool
  rollDue       : Bool
  joinedPending : Bool
  rollOnLine    : RollOnLine
  deriving DecidableEq, Repr

/-- Table 4-1, reset column, with the straps as sampled. -/
def MembershipUnit.reset (addr : StationId) (rate : Fin 4) : MembershipUnit :=
  { station := .detached, number := addr, rate := rate, joinTimer := none, rollTimer := none, leaveTimer := none,
    leaveExpired := false, rollDue := false, joinedPending := false, rollOnLine := .off }

/-! ## Parcel Store (R83) -/

/-- Where a posted parcel goes (Table 5-2). -/
inductive Dest where
  | station (p : StationId)
  | group (g : GroupId)
  deriving DecidableEq, Repr

/-- Where a received parcel came from (Table 5-2). -/
inductive Origin where
  | direct
  | group (g : GroupId)
  deriving DecidableEq, Repr

/-- The outcome codes of Table 10-1. -/
inductive OutcomeCode where
  | delivered | partly | unconfirmed | notSent | cancelled
  deriving DecidableEq, Repr

/-- The causes of Table 10-2. -/
inductive Cause where
  | none | retriesExhausted | heldTooLong | peerUnreachable | noSession | peerRestarted | peerLost | peerLeft
  | stationLeft | transmitFault | clash | rosterEmpty | memberLost | host
  deriving DecidableEq, Repr

/-- The outcome a DONE slot records (R92). -/
structure ParcelOutcome where
  code  : OutcomeCode
  cause : Cause
  /-- The answered set and the missing set; absent for a direct parcel (R182). -/
  sets  : Option (StationSet × StationSet)
  deriving DecidableEq, Repr

/-- The fields of an outbound slot (Table 5-2). -/
structure Parcel where
  ticket   : Ticket
  dest     : Dest
  urgent   : Bool
  payload  : List Byte
  /-- For a direct parcel; a group parcel has none, and the field stays clear (R91). -/
  sentOnce : Bool
  deriving DecidableEq, Repr

/-- A slot in one of the five states of Table 5-1, with the fields Table 5-2 gives that state. -/
inductive Slot where
  | free
  | waiting (c : Parcel)
  | inFlight (c : Parcel)
  | done (c : Parcel) (o : ParcelOutcome)
  | delivered (source : StationId) (origin : Origin) (payload : List Byte)
  deriving DecidableEq, Repr

/-! ## Session Unit (R99, R125, R136) -/

/-- The state of a tx session (Table 6-1). -/
inductive SessionState where
  | opening | opened
  deriving DecidableEq, Repr

/-- An entry of a tx session's waiting list (Table 6-1). -/
structure WaitingEntry where
  slot     : SlotId
  returned : Bool
  deriving DecidableEq, Repr

/-- An entry of a tx session's window (Table 6-1). -/
structure WindowEntry where
  slot : SlotId
  seq  : Seq
  deriving DecidableEq, Repr

/-- The tx session record of Table 6-1, with the mark of Table 3-5 that its OPEN is on the line. -/
structure TxSession where
  state        : SessionState
  waiting      : List WaitingEntry
  window       : List WindowEntry
  nextSeq      : Seq
  /-- The resend point, by the sequence of its window entry. -/
  resend       : Option Seq
  retry        : Nat
  hold         : Nat
  held         : Bool
  holdTimer    : Option Nat
  answerTimer  : Option Nat
  openDue      : Bool
  refusalPause : Bool
  openOnLine   : Bool
  deriving DecidableEq, Repr

/-- An entry of the answer queue (Table 7-2). -/
structure AnswerEntry where
  dest    : StationId
  subject : Subject
  code    : AnswerCode
  number  : Seq
  onLine  : Bool
  deriving DecidableEq, Repr

/-! ## The peer table (R62) -/

/-- The presence field of a peer entry (R62). -/
inductive Presence where
  | absent | present | self
  deriving DecidableEq, Repr

/-- A peer entry: the Membership Unit's presence part and the parts of the Group Unit and the Session Unit. -/
structure PeerEntry where
  presence  : Presence
  groups    : GroupSet
  silence   : Nat
  lastGroup : Option Seq
  tx        : Option TxSession
  /-- The rx record: its expected sequence e (R125). -/
  rx        : Option Seq
  deriving DecidableEq, Repr

/-- An entry with the presence given and nothing else (R62). -/
def PeerEntry.empty (pr : Presence) : PeerEntry :=
  { presence := pr, groups := 0, silence := 0, lastGroup := none, tx := none, rx := none }

/-! ## Group Unit (R143) -/

/-- The group lane record of Table 8-2. -/
structure Lane where
  slot     : SlotId
  group    : GroupId
  seq      : Seq
  roster   : StationSet
  pending  : StationSet
  answered : StationSet
  lost     : StationSet
  retry    : Nat
  sentOnce : Bool
  frameDue : Bool
  timer    : Option Nat
  deriving DecidableEq, Repr

/-- The Group Unit record of Table 8-1, less the last group sequences, which stand in the peer entries. -/
structure GroupUnit where
  waiting : List SlotId
  /-- `none` is IDLE. -/
  lane    : Option Lane
  counter : Seq
  deriving DecidableEq, Repr

/-- Table 8-1, reset column. -/
def GroupUnit.reset : GroupUnit := { waiting := [], lane := none, counter := 0 }

/-! ## Host Port (R160 to R176, R180) -/

/-- The configuration block of Table 9-6. -/
structure ConfigBlock where
  /-- In units of 10 milliseconds. -/
  rollInterval : Nat
  /-- In milliseconds. -/
  answerWait   : Nat
  retryLimit   : Nat
  window       : Nat
  groups       : GroupSet
  deriving DecidableEq, Repr

/-- Table 9-6, default column. -/
def ConfigBlock.default : ConfigBlock :=
  { rollInterval := 10, answerWait := 20, retryLimit := 5, window := 4, groups := 0 }

/-- The reply results of Table 9-2. -/
inductive Result where
  | ok | busy | badCommand | badValue | badDest | notMember | noPeer | full | inFlight | unknown | empty | resetDone
  deriving DecidableEq, Repr

/-- The reply buffer (R162). The reply length is the number of data bytes. -/
structure Reply where
  tag    : Byte
  code   : Byte
  result : Result
  data   : List Byte
  deriving DecidableEq, Repr

/-- R177: tag 0, NOP, RESET-DONE, no data. -/
def Reply.afterReset : Reply := { tag := 0, code := 0, result := .resetDone, data := [] }

/-- The SPI port: CSN and the transaction in progress. -/
inductive Port where
  /-- CSN is high; SDO is not driven. -/
  | idle
  /-- A transaction the port takes; `out` is the reply shifted out on SDO, followed by filler (R162). -/
  | taking (out : List Byte)
  /-- CSN is low in a transaction the port does not take; SDO is not driven (R177). -/
  | ignoring
  deriving DecidableEq, Repr

/-- The notice kinds of Table 10-4. -/
inductive NoticeKind where
  | joinDone | left | peerJoined | peerRestarted | peerLeft | peerLost | silenced | halted | lineHeld | lineReleased
  deriving DecidableEq, Repr

/-- An entry of the report list (R182, R184). -/
inductive ReportEntry where
  | outcome (k : SlotId)
  | notice (kind : NoticeKind) (peer : Option StationId) (missed : Bool)
  deriving DecidableEq, Repr

/-! ## The whole part -/

/-- The state of the 8532 and the queue of commands that wait. -/
structure State where
  /-- The MODEL's queue of waiting commands, first in, first out. -/
  pending   : List Instr
  /-- RSTN is low (R17). -/
  inReset   : Bool
  port      : Port
  lm        : LineMonitor
  fr        : FrameReceiver
  tu        : TransmitUnit
  mu        : MembershipUnit
  peers     : Vector PeerEntry 32
  slots     : Vector Slot 40
  delivered : List SlotId
  ticket    : Ticket
  answers   : List AnswerEntry
  gu        : GroupUnit
  cfg       : ConfigBlock
  reply     : Reply
  report    : List ReportEntry
  deriving DecidableEq, Repr

/-- Every block at its reset value, with the straps as sampled and what the two resets set differently: the
configuration block, the reply buffer and the port (R177, R178). -/
def State.blocksReset (cfg : ConfigBlock) (reply : Reply) (port : Port) (inReset : Bool) (addr : StationId)
    (rate : Fin 4) (pending : List Instr) : State :=
  { pending := pending, inReset := inReset, port := port, lm := .reset, fr := .reset, tu := .reset,
    mu := .reset addr rate,
    peers := (Vector.replicate 32 (PeerEntry.empty .absent)).set addr.val (PeerEntry.empty .self) addr.isLt,
    slots := Vector.replicate 40 .free, delivered := [], ticket := 1, answers := [], gu := .reset, cfg := cfg,
    reply := reply, report := [] }

/-- The machine right after a hardware reset has ended (R177), CSN high, with the straps at the levels log 1 names. -/
def State.reset : State :=
  .blocksReset .default .afterReset .idle false Config.resetStation Config.resetRate []

end Sys2Proof.Machine
end

