-- ==== Sys2Proof/Machine/Operands.lean ====
section
/-!
DEFINITION. The operands of host commands: the command codes and argument lengths of Tables 9-3 and 11-6, and the argument
encodings and ranges of sections 11.3 and 11.5.
-/
namespace Sys2Proof.Machine

open Sys2Proof

/-- The argument lengths a command code allows (Tables 9-3 and 11-6); no length is allowed for an unknown code. -/
def argumentLengthOk (code : Byte) (n : Nat) : Bool :=
  match code.toNat with
  | 0x00 => n == 0
  | 0x01 => n == 0
  | 0x02 => n == 1
  | 0x10 => n == 5
  | 0x11 => n == 0
  | 0x12 => n == 0
  | 0x13 => n == 0
  | 0x1F => n == 0
  | 0x20 => decide (2 ≤ n ∧ n ≤ 72)
  | 0x21 => n == 2
  | 0x30 => n == 0
  | 0x31 => n == 0
  | _ => false

/-- The bytes received in a transaction, from the levels of SDI at the rising edges of SCK in order: the most significant bit of
each byte first. The bits of a byte that is incomplete when CSN rises are discarded (R160). -/
def sdiBytes (bits : List Level) : List Byte :=
  bytesOf (bits.length / 8) bits

/-- A complete transaction: at least 3 + n bytes, and n at most 72 (R161). -/
def transactionComplete (bytes : List Byte) : Bool :=
  match bytes with
  | _ :: _ :: n :: rest => decide (n.toNat ≤ Config.maxArguments ∧ n.toNat ≤ rest.length)
  | _ => false

/-- A station number argument (PEER; R168). -/
def stationArg (b : Byte) : Option StationId :=
  if h : b.toNat < 32 then some ⟨b.toNat, h⟩ else none

/-- A destination argument of POST: a station, or 32 + g for group g (R172, section 11.3). -/
def destArg (b : Byte) : Option Dest :=
  if h : b.toNat < 32 then some (.station ⟨b.toNat, h⟩)
  else if h : b.toNat < 40 then some (.group ⟨b.toNat - 32, by omega⟩)
  else none

/-- A priority argument of POST: 2 URGENT, 3 NORMAL (section 11.3). -/
def priorityArg (b : Byte) : Option Bool :=
  match b.toNat with
  | 2 => some true
  | 3 => some false
  | _ => none

/-- The configuration block that CONFIGURE's arguments give, when each is in its range (R169, R191). -/
def configArgs (rollInterval answerWait retryLimit window groups : Byte) : Option ConfigBlock :=
  if 2 ≤ rollInterval.toNat ∧ rollInterval.toNat ≤ 250 ∧ 2 ≤ answerWait.toNat ∧ answerWait.toNat ≤ 250 ∧
      1 ≤ retryLimit.toNat ∧ retryLimit.toNat ≤ 15 ∧ 1 ≤ window.toNat ∧ window.toNat ≤ 4 then
    some ⟨rollInterval.toNat, answerWait.toNat, retryLimit.toNat, window.toNat, groups⟩
  else none

end Sys2Proof.Machine
end

