-- ==== Sys2Proof/WellFormed.lean ====
section
/-!
DEFINITION. Which terms of `Instr` are instances of their row: the checks that the operands' types do not make.
-/
namespace Sys2Proof

open Sys2Proof.Machine

/-- The check of each row's operands. A frame row carries a frame that Table 2-6 allows, BAD_COMMAND a code and a length that
R164 refuses, INCOMPLETE_TRANSACTION bytes that R161 does not call complete, POST at most 70 payload bytes (R172), and
RESYNCHRONISATION a CLKIN period of the longest bit (Table 1-1). -/
def Instr.wellFormed : Instr → Bool
  | .hardwareReset => true
  | .hardwareResetEnd _ _ => true
  | .incompleteTransaction bytes => !transactionComplete bytes
  | .badCommand _ code args => !argumentLengthOk code args.length && decide (args.length ≤ Config.maxArguments)
  | .nop _ => true
  | .status _ => true
  | .peer _ _ => true
  | .configure _ _ _ _ _ _ => true
  | .join _ => true
  | .leave _ => true
  | .resume _ => true
  | .restart _ _ _ => true
  | .post _ _ _ payload => decide (payload.length + 2 ≤ Config.maxArguments)
  | .cancel _ _ => true
  | .fetch _ => true
  | .report _ => true
  | .lineQuiet => true
  | .startPoint => true
  | .lostContention => true
  | .mismatch => true
  | .breakoffEnd => true
  | .sent => true
  | .lineHeld => true
  | .lineReleased => true
  | .longQuiet => true
  | .frameViolation _ => true
  | .openingMark => true
  | .frameClose => true
  | .clash m => (m.withSrc 0).valid || (m.withSrc 1).valid
  | .roll src q groups flags => (Msg.roll src q groups flags).valid
  | .openFrame src dst q => (Msg.openReq src dst q).valid
  | .data u src dst q payload => (Msg.data u src dst q payload).valid
  | .group u src g q payload => (Msg.group u src g q payload).valid
  | .answerData src dst code n => (Msg.answer src dst .data code n).valid
  | .answerOpen src dst code n => (Msg.answer src dst .openReq code n).valid
  | .answerGroup src dst code n => (Msg.answer src dst .group code n).valid
  | .joinTimerExpiry => true
  | .rollTimerExpiry => true
  | .leaveTimerExpiry => true
  | .openAnswerTimerExpiry _ => true
  | .answerTimerExpiry _ => true
  | .holdTimerExpiry _ => true
  | .laneAnswerTimerExpiry => true
  | .lineSample _ => true
  | .resynchronisation clocks => decide (clocks < 128)
  | .csnFall => true

end Sys2Proof
end

