-- ==== Sys2Proof/Decode.lean ====
section
/-!
DEFINITION. Reading the table's words, and reading the bytes of a host transaction as the row that the rise of CSN is. No row
of spec/opcode_table.json gives bits, so no table word spells a command; the host's bytes do (R161, R164, Table 11-6).
-/
namespace Sys2Proof

open Sys2Proof.Machine

/-- The command that a word of `nbits` bits spells by the table's bits. No row of the table gives bits, so no word spells one. -/
def decodeTableWord (_nbits _w : Nat) : Option Instr := none

/-- A complete transaction with its tag, code and argument bytes, as the row it is: a command of Table 11-6 with an argument
length the code allows, or BAD_COMMAND (R164). `addr` and `rate` are the straps as they stand. -/
def decodeCommand (addr : StationId) (rate : Fin 4) (tag code : Byte) (args : List Byte) : Instr :=
  match code.toNat, args with
  | 0x00, [] => .nop tag
  | 0x01, [] => .status tag
  | 0x02, [n] => .peer tag n
  | 0x10, [a, b, c, d, e] => .configure tag a b c d e
  | 0x11, [] => .join tag
  | 0x12, [] => .leave tag
  | 0x13, [] => .resume tag
  | 0x1F, [] => .restart tag addr rate
  | 0x20, dest :: priority :: payload => .post tag dest priority payload
  | 0x21, [hi, lo] => .cancel tag (hi ++ lo)
  | 0x30, [] => .fetch tag
  | 0x31, [] => .report tag
  | _, _ => .badCommand tag code args

/-- The bytes of a transaction as the row that its CSN rise is (R161, R163). Filler after the arguments is not read. -/
def decodeTransaction (addr : StationId) (rate : Fin 4) (bytes : List Byte) : Instr :=
  match bytes with
  | tag :: code :: n :: rest =>
    if transactionComplete bytes then decodeCommand addr rate tag code (rest.take n.toNat)
    else .incompleteTransaction bytes
  | _ => .incompleteTransaction bytes

/-- The levels of SDI at the rising edges of SCK while CSN was low, as the row that the CSN rise is (R160, R161, R163). -/
def decodeSdi (addr : StationId) (rate : Fin 4) (bits : List Level) : Instr :=
  decodeTransaction addr rate (sdiBytes bits)

/-- A transaction of a command: tag, code, argument length, arguments (Table 11-4). -/
def transactionBytes (tag code : Byte) (args : List Byte) : List Byte :=
  tag :: code :: BitVec.ofNat 8 args.length :: args

/-- The bytes the host sends for a row that is the end of a transaction, without filler (section 11.2). -/
def encodeTransaction : Instr → Option (List Byte)
  | .incompleteTransaction bytes => some bytes
  | .badCommand tag code args => some (transactionBytes tag code args)
  | .nop tag => some (transactionBytes tag 0x00 [])
  | .status tag => some (transactionBytes tag 0x01 [])
  | .peer tag n => some (transactionBytes tag 0x02 [n])
  | .configure tag a b c d e => some (transactionBytes tag 0x10 [a, b, c, d, e])
  | .join tag => some (transactionBytes tag 0x11 [])
  | .leave tag => some (transactionBytes tag 0x12 [])
  | .resume tag => some (transactionBytes tag 0x13 [])
  | .restart tag _ _ => some (transactionBytes tag 0x1F [])
  | .post tag dest priority payload => some (transactionBytes tag 0x20 (dest :: priority :: payload))
  | .cancel tag ticket =>
    some (transactionBytes tag 0x21 [ticket.extractLsb' 8 8, ticket.extractLsb' 0 8])
  | .fetch tag => some (transactionBytes tag 0x30 [])
  | .report tag => some (transactionBytes tag 0x31 [])
  | _ => none

end Sys2Proof
end

