-- ==== Sys2Proof/Machine/LineUnits.lean ====
section
/-!
DEFINITION. The two blocks behind LIN on their own records: the Line Monitor's update for a sample and its
report (R9 to R14), and the Frame Receiver's use of the sample and report (R24 to R28); and the bit timing numbers
of Table 1-1.
-/
namespace Sys2Proof.Machine

open Sys2Proof

/-! ## Bit timing (R2, R3) -/

/-- BT in CLKIN periods for a bit-rate code (Table 1-1). -/
def bitClocks (rate : Fin 4) : Nat := 128 / 2 ^ rate.val

/-- The sample point in CLKIN periods after the start of the bit, 5/8 of BT (Table 1-1). -/
def sampleClocks (rate : Fin 4) : Nat := 80 / 2 ^ rate.val

/-! ## Line Monitor -/

/-- The run reports to the Frame Receiver (R11). -/
inductive RunReport where
  | mark | violation
  deriving DecidableEq, Repr

/-- The run length after a sample: one more for an equal sample, up to 32, and 1 for a new run (R10). -/
def LineMonitor.runAfter (lm : LineMonitor) (b : Level) : Nat :=
  if lm.polarity = some b then min Config.heldLength (lm.runLength + 1) else 1

/-- The line state after a sample (R12, Table 1-5), given the run length after it. -/
def LineMonitor.lineAfter (lm : LineMonitor) (b : Level) : LineState :=
  match lm.line, b with
  | .active, true => if lm.runAfter b = Config.quietLength then .quiet else .active
  | .active, false => if lm.runAfter b = Config.heldLength then .held else .active
  | .quiet, true => .quiet
  | .quiet, false => .active
  | .held, true => .active
  | .held, false => .held

/-- The record after a sample (R10, R12). -/
def LineMonitor.afterSample (lm : LineMonitor) (b : Level) : LineMonitor :=
  { line := lm.lineAfter b, polarity := some b, runLength := lm.runAfter b,
    firstRun := if lm.polarity = none ∨ lm.polarity = some b then lm.firstRun else false,
    quietRun := if b = recessive then lm.runAfter b else 0, sampled := true }

/-- The run report a sample gives (R11, Table 1-4). -/
def LineMonitor.reportOn (lm : LineMonitor) (b : Level) : Option RunReport :=
  if lm.polarity = some b then
    if b = dominant ∧ lm.runLength + 1 = Config.dominantLimit then some .violation
    else if b = recessive ∧ lm.runLength + 1 = Config.recessiveLimit then some .violation
    else none
  else if b = dominant ∧ lm.polarity = some recessive then
    if lm.runLength = 5 then some .violation
    else if lm.runLength = Config.markRun then (if lm.firstRun then some .violation else some .mark)
    else none
  else none

/-- The sample enters HELD (R15). -/
def LineMonitor.entersHeld (lm : LineMonitor) (b : Level) : Bool :=
  decide (lm.line ≠ .held ∧ lm.lineAfter b = .held)

/-- The sample leaves HELD (R15). -/
def LineMonitor.leavesHeld (lm : LineMonitor) (b : Level) : Bool :=
  decide (lm.line = .held ∧ lm.lineAfter b ≠ .held)

/-- The sample brings the quiet-run length to 10, and the line becomes QUIET (R12). -/
def LineMonitor.entersQuiet (lm : LineMonitor) (b : Level) : Bool :=
  decide (lm.line ≠ .quiet ∧ lm.lineAfter b = .quiet)

/-- The sample gives the long-quiet event: it brings the quiet-run length to 24 (R14). -/
def LineMonitor.longQuietOn (lm : LineMonitor) (b : Level) : Bool :=
  decide (b = recessive ∧ lm.polarity = some recessive ∧ lm.runLength + 1 = Config.longQuietLength)

/-- The record at the sample that completes a closing mark: a new dominant run of length 1 after a recessive
run of six (R10, R11, R12). -/
def LineMonitor.atMark : LineMonitor :=
  { line := .active, polarity := some dominant, runLength := 1, firstRun := false, quietRun := 0, sampled := true }

/-! ## Frame Receiver -/

/-- What a sample brings about at the Frame Receiver. -/
inductive ReceiverEvent where
  | none
  /-- A MARK report in SEEK (R25). -/
  | opened
  /-- A VIOLATION report or the held event in GATHER (R27). -/
  | violation
  /-- A stuff position with the value of its run (R26). -/
  | stuffError
  /-- A content bit beyond 554 (R26). -/
  | overlength
  /-- A MARK report in GATHER: the frame closes with this content, CRC accumulator and stuff-due flag (R28). -/
  | closed (stuffDue : Bool) (crc : BitVec 16) (content : List Bool)
  deriving DecidableEq, Repr

/-- SEEK, with the record empty; also what a discard and a close leave (log 4). -/
def FrameReceiver.seeking : FrameReceiver := .reset

/-- GATHER with the record prepared (R25). -/
def FrameReceiver.prepared : FrameReceiver := { FrameReceiver.reset with state := .gather }

/-- A content bit joins the content, and the bit that leaves the last 16 is fed to the CRC accumulator (R26). -/
def FrameReceiver.appendContent (fr : FrameReceiver) (b : Bool) : FrameReceiver :=
  let n := if b = fr.runValue then fr.runCount + 1 else 1
  let fed := if 16 ≤ fr.content.length then crcStep fr.crc (fr.content.getD (fr.content.length - 16) false) else fr.crc
  { fr with runValue := b, runCount := n, stuffDue := decide (n = Config.stuffRun), content := fr.content ++ [b],
            crc := fed }

/-- A bit released from the hold-back (R26). -/
def FrameReceiver.release (fr : FrameReceiver) (b : Bool) : FrameReceiver × ReceiverEvent :=
  if fr.stuffDue then
    if b = fr.runValue then (.seeking, .stuffError)
    else ({ fr with stuffDue := false, runValue := b, runCount := 1 }, .none)
  else if fr.content.length = Config.maxContent then (.seeking, .overlength)
  else (fr.appendContent b, .none)

/-- A sample without a report in GATHER joins the hold-back; the oldest of eight bits is released (R26). -/
def FrameReceiver.gatherBit (fr : FrameReceiver) (b : Level) : FrameReceiver × ReceiverEvent :=
  match fr.holdBack ++ [b] with
  | [] => (fr, .none)
  | oldest :: rest =>
    if Config.holdBack < rest.length + 1 then { fr with holdBack := rest }.release oldest
    else ({ fr with holdBack := oldest :: rest }, .none)

/-- A sample at the Frame Receiver with its run report (R25 to R28). -/
def FrameReceiver.sample (fr : FrameReceiver) (b : Level) (r : Option RunReport) : FrameReceiver × ReceiverEvent :=
  match fr.state, r with
  | .seek, some .mark => (.prepared, .opened)
  | .seek, _ => (fr, .none)
  | .gather, none => fr.gatherBit b
  | .gather, some .violation => (.seeking, .violation)
  | .gather, some .mark => (.seeking, .closed fr.stuffDue fr.crc fr.content)

/-- The held event at the Frame Receiver (R27). -/
def FrameReceiver.onHeld (fr : FrameReceiver) : FrameReceiver :=
  match fr.state with
  | .seek => fr
  | .gather => .seeking

end Sys2Proof.Machine
end

