-- ==== Sys2Proof/Machine/Ops.lean ====
section
/-!
DEFINITION. The named operations over the part's shared state: peer entries and slots, sets of stations, the report
list (chapter 10), the store's allocation and outcomes (chapter 5), the answer queue (chapter 7), station-state
changes and the end of an attempt (R40). Every meaning is built from these.
-/
namespace Sys2Proof.Machine

open Sys2Proof

/-! ## Stations and sets of stations -/

/-- Every station number in ascending order (R68, R123). -/
def allStations : List StationId := List.finRange 32

/-- Every slot number in ascending order (R83). -/
def allSlots : List SlotId := List.finRange 40

/-- Station `p` is in the set. -/
def hasStation (m : StationSet) (p : StationId) : Bool := m.getLsbD p.val

/-- The set of one station. -/
def oneStation (p : StationId) : StationSet := BitVec.twoPow 32 p.val

/-- The set with `p` added. -/
def addStation (m : StationSet) (p : StationId) : StationSet := m ||| oneStation p

/-- The set with `p` removed. -/
def dropStation (m : StationSet) (p : StationId) : StationSet := m &&& ~~~oneStation p

/-- The set of the stations that satisfy a condition. -/
def stationsWhere (cond : StationId → Bool) : StationSet :=
  (allStations.filter cond).foldl addStation 0

/-- Group `g` is in the set. -/
def hasGroup (gs : GroupSet) (g : GroupId) : Bool := gs.getLsbD g.val

/-! ## Peer entries and slots -/

/-- The peer entry of station `p` (R62). -/
def State.peer (s : State) (p : StationId) : PeerEntry := s.peers[p.val]

/-- The state with the peer entry of `p` replaced. -/
def State.withPeer (s : State) (p : StationId) (e : PeerEntry) : State :=
  { s with peers := s.peers.set p.val e }

/-- The tx session to `p`, if its entry holds one (R99). -/
def State.tx (s : State) (p : StationId) : Option TxSession := (s.peer p).tx

/-- The state with the tx session to `p` replaced, or deleted. -/
def State.withTx (s : State) (p : StationId) (t : Option TxSession) : State :=
  s.withPeer p { s.peer p with tx := t }

/-- The state with the rx record of `p` replaced, or dropped (R125). -/
def State.withRx (s : State) (p : StationId) (e : Option Seq) : State :=
  s.withPeer p { s.peer p with rx := e }

/-- The state with the last group sequence of `p` replaced (R143). -/
def State.withLastGroup (s : State) (p : StationId) (q : Option Seq) : State :=
  s.withPeer p { s.peer p with lastGroup := q }

/-- The presence part of `p` replaced (R62). -/
def State.withPresence (s : State) (p : StationId) (pr : Presence) (groups : GroupSet) (silence : Nat) : State :=
  s.withPeer p { s.peer p with presence := pr, groups := groups, silence := silence }

/-- The entry of `p` is PRESENT (R62). -/
def State.isPresent (s : State) (p : StationId) : Bool := decide ((s.peer p).presence = .present)

/-- Slot `k` of the store (R83). -/
def State.slot (s : State) (k : SlotId) : Slot := s.slots[k.val]

/-- The state with slot `k` replaced. -/
def State.withSlot (s : State) (k : SlotId) (v : Slot) : State :=
  { s with slots := s.slots.set k.val v }

/-- The slot is FREE. -/
def Slot.isFree : Slot → Bool
  | .free => true
  | _ => false

/-- The slot is WAITING, IN-FLIGHT or DONE (R85). -/
def Slot.isOutbound : Slot → Bool
  | .free => false
  | .delivered .. => false
  | _ => true

/-- The slot is DELIVERED. -/
def Slot.isDelivered : Slot → Bool
  | .delivered .. => true
  | _ => false

/-- The slot is DONE. -/
def Slot.isDone : Slot → Bool
  | .done .. => true
  | _ => false

/-- The parcel of an outbound slot (Table 5-2). -/
def Slot.parcel : Slot → Option Parcel
  | .waiting c => some c
  | .inFlight c => some c
  | .done c _ => some c
  | _ => none

/-- The number of slots that satisfy a condition. -/
def State.countSlots (s : State) (cond : Slot → Bool) : Nat :=
  allSlots.countP fun k => cond (s.slot k)

/-- The lowest-numbered FREE slot, if there is one (R86, R89). -/
def State.freeSlot (s : State) : Option SlotId :=
  allSlots.find? fun k => (s.slot k).isFree

/-- The parcel in slot `k` is URGENT (R84). -/
def State.urgentSlot (s : State) (k : SlotId) : Bool :=
  match (s.slot k).parcel with
  | some c => c.urgent
  | none => false

/-- The sent-once flag of the parcel in slot `k` (R91). -/
def State.sentOnce (s : State) (k : SlotId) : Bool :=
  match (s.slot k).parcel with
  | some c => c.sentOnce
  | none => false

/-! ## The report list (R180 to R186) -/

/-- The entry is a notice. -/
def ReportEntry.isNotice : ReportEntry → Bool
  | .notice .. => true
  | .outcome _ => false

/-- The notice entries on a report list. -/
def noticeCount (l : List ReportEntry) : Nat := l.countP ReportEntry.isNotice

/-- The outcome entries on a report list. -/
def outcomeCount (l : List ReportEntry) : Nat := l.countP fun e => !e.isNotice

/-- A report list after a notice is raised: with 16 notices held, the oldest is displaced and the new one carries
MISSED (R185). -/
def reportWithNotice (l : List ReportEntry) (kind : NoticeKind) (peer : Option StationId) : List ReportEntry :=
  if noticeCount l < Config.noticeCap then l ++ [.notice kind peer false]
  else l.eraseP ReportEntry.isNotice ++ [.notice kind peer true]

/-- A notice is raised (R184, R185). -/
def State.raise (s : State) (kind : NoticeKind) (peer : Option StationId) : State :=
  { s with report := reportWithNotice s.report kind peer }

/-! ## Outcomes (R92, R182) -/

/-- A WAITING or IN-FLIGHT slot becomes DONE with its outcome, and its outcome entry is appended (R92, R182). A slot in
any other state keeps its outcome or its content. -/
def State.setOutcome (s : State) (k : SlotId) (o : ParcelOutcome) : State :=
  match s.slot k with
  | .waiting c => { s.withSlot k (.done c o) with report := s.report ++ [.outcome k] }
  | .inFlight c => { s.withSlot k (.done c o) with report := s.report ++ [.outcome k] }
  | _ => s

/-- The outcome of a direct parcel: no sets (R182). -/
def directOutcome (code : OutcomeCode) (cause : Cause) : ParcelOutcome := ⟨code, cause, none⟩

/-- The outcome of a group parcel with its answered set and missing set (R182, R183). -/
def groupOutcome (code : OutcomeCode) (cause : Cause) (answered missing : StationSet) : ParcelOutcome :=
  ⟨code, cause, some (answered, missing)⟩

/-- Outcomes for a list of slots, in list order (R181). -/
def State.setOutcomes (s : State) (ks : List SlotId) (o : SlotId → ParcelOutcome) : State :=
  ks.foldl (fun s k => s.setOutcome k (o k)) s

/-! ## Slot moves (R91) -/

/-- A WAITING slot becomes IN-FLIGHT with the sent-once flag clear (R91, R109). -/
def State.toInFlight (s : State) (k : SlotId) : State :=
  match s.slot k with
  | .waiting c => s.withSlot k (.inFlight { c with sentOnce := false })
  | _ => s

/-- An IN-FLIGHT slot returns to WAITING with the sent-once flag clear (R91, R122). -/
def State.toWaiting (s : State) (k : SlotId) : State :=
  match s.slot k with
  | .inFlight c => s.withSlot k (.waiting { c with sentOnce := false })
  | _ => s

/-- The sent-once flag of an IN-FLIGHT slot is set (R91, R110). -/
def State.markSent (s : State) (k : SlotId) : State :=
  match s.slot k with
  | .inFlight c => s.withSlot k (.inFlight { c with sentOnce := true })
  | _ => s

/-! ## Outbound allocation and tickets (R86, R87) -/

/-- The counter's next value: 65535 is followed by 1 (R87). -/
def nextTicket (t : Ticket) : Ticket := if t = 65535#16 then 1#16 else t + 1#16

/-- Ticket `t` is carried by a WAITING, IN-FLIGHT or DONE slot (R87). -/
def State.ticketLive (s : State) (t : Ticket) : Bool :=
  allSlots.any fun k =>
    match (s.slot k).parcel with
    | some c => decide (c.ticket = t)
    | none => false

/-- The counter goes up by 1 and on past every live ticket; the number bounds the steps (R87: within 33). -/
def advanceTicket (live : Ticket → Bool) : Nat → Ticket → Ticket
  | 0, t => nextTicket t
  | n + 1, t => if live (nextTicket t) then advanceTicket live n (nextTicket t) else nextTicket t

/-- The outbound slot that the store grants: the lowest FREE one while the outbound count is below 32 (R86). -/
def State.outboundSlot (s : State) : Option SlotId :=
  if s.countSlots Slot.isOutbound < Config.outboundCap then s.freeSlot else none

/-- A granted outbound request fills slot `k`, takes the ticket and advances the counter (R86, R87). -/
def State.fillOutbound (s : State) (k : SlotId) (dest : Dest) (urgent : Bool) (payload : List Byte) : State :=
  let s' := s.withSlot k (.waiting ⟨s.ticket, dest, urgent, payload, false⟩)
  { s' with ticket := advanceTicket s'.ticketLive 32 s.ticket }

/-! ## Inbound acceptance (R89) -/

/-- A received parcel takes slot `k` and joins the delivered list at its tail (R89, R90). -/
def State.accept (s : State) (k : SlotId) (source : StationId) (origin : Origin) (payload : List Byte) : State :=
  { s.withSlot k (.delivered source origin payload) with delivered := s.delivered ++ [k] }

/-! ## The answer queue (R126, R137) -/

/-- The entry waits off the line under the key (R126, R136). -/
def AnswerEntry.waitsFor (e : AnswerEntry) (dest : StationId) (subject : Subject) : Bool :=
  decide (e.dest = dest ∧ e.subject = subject) && !e.onLine

/-- An answer with this key has room (R126). -/
def State.answerRoom (s : State) (dest : StationId) (subject : Subject) : Bool :=
  s.answers.any (·.waitsFor dest subject) || decide (s.answers.length < Config.answerCap)

/-- A queue after an answer with room is placed: overwritten in place, or appended (R137). -/
def placeInQueue (l : List AnswerEntry) (dest : StationId) (subject : Subject) (code : AnswerCode) (number : Seq) :
    List AnswerEntry :=
  if l.any (·.waitsFor dest subject) then
    l.map fun e => if e.waitsFor dest subject then { e with code := code, number := number } else e
  else l ++ [⟨dest, subject, code, number, false⟩]

/-- An answer is placed when it has room, and given up otherwise (R126, R137). -/
def State.answer (s : State) (dest : StationId) (subject : Subject) (code : AnswerCode) (number : Seq) : State :=
  if s.answerRoom dest subject then { s with answers := placeInQueue s.answers dest subject code number } else s

/-! ## The end of an attempt without a result, and changes of station state (R40) -/

/-- The transmitter in WAIT with its buffer empty and its attempt phase count and break-off count at 0 (R39, R45). That the counts
are 0 after an attempt is the model's choice (log 28). LOUT is left as it stands. -/
def TransmitUnit.toWait (t : TransmitUnit) : TransmitUnit :=
  { t with state := .wait, buffer := none, lineBits := 0, arbitrationBits := 0, breakoffBits := 0 }

/-- An attempt in progress ends at once with LOUT released and no result (R40). -/
def State.abortAttempt (s : State) : State :=
  if s.tu.state = .wait then s else { s with tu := { s.tu.toWait with lout := recessive } }

/-- The station may drive the line (R40). -/
def StationState.mayDrive : StationState → Bool
  | .member => true
  | .leaving => true
  | _ => false

/-- The station state changes; leaving MEMBER and LEAVING ends an attempt in progress (R40). -/
def State.become (s : State) (st : StationState) : State :=
  let s' := { s with mu := { s.mu with station := st } }
  if st.mayDrive then s' else s'.abortAttempt

/-- The roll interval in milliseconds (Table 9-6). -/
def ConfigBlock.rollMillis (c : ConfigBlock) : Nat := 10 * c.rollInterval

/-- The attempt in progress is in CONTEND or SEND with this item of its owner (R120, R155). -/
def State.sending (s : State) (o : Owner) : Bool :=
  decide (s.tu.state = .contend ∨ s.tu.state = .send) && decide (s.tu.buffer.map (·.owner) = some o)

end Sys2Proof.Machine
end

