-- ==== Sys2Proof/Machine/Groups.lean ====
section
/-!
DEFINITION. The Group Unit (chapter 8): the group waiting list, the load, the lane's answers, retries and completion,
its teardown, and the receiving side.
-/
namespace Sys2Proof.Machine

open Sys2Proof

/-! ## The waiting list and the load (R144 to R147) -/

/-- A list with `x` placed directly ahead of the first entry that satisfies `normal`, or at the tail (R102, R144). -/
def insertAhead {α : Type} (normal : α → Bool) (x : α) : List α → List α
  | [] => [x]
  | y :: ys => if normal y then x :: y :: ys else y :: insertAhead normal x ys

/-- The roster of group `g`: the PRESENT peers whose announced groups contain it (R146). -/
def State.roster (s : State) (g : GroupId) : StationSet :=
  stationsWhere fun p => s.isPresent p && hasGroup (s.peer p).groups g

/-- The lane record at a load (Table 8-2). -/
def Lane.loaded (k : SlotId) (g : GroupId) (q : Seq) (roster : StationSet) : Lane :=
  { slot := k, group := g, seq := q, roster := roster, pending := roster, answered := 0, lost := 0, retry := 0,
    sentOnce := false, frameDue := true, timer := none }

/-- The group of the parcel in slot `k`. -/
def State.groupOfSlot (s : State) (k : SlotId) : GroupId :=
  match (s.slot k).parcel with
  | some c => match c.dest with
    | .group g => g
    | .station _ => 0
  | none => 0

/-- The lane becomes BUSY with the parcel in slot `k`; the counter advances (R146, R147). -/
def State.loadLane (s : State) (k : SlotId) (rest : List SlotId) : State :=
  let g := s.groupOfSlot k
  let s' := s.toInFlight k
  { s' with gu := { waiting := rest, lane := some (Lane.loaded k g s.gu.counter (s.roster g)),
                    counter := s.gu.counter + 1 } }

/-- The load over a waiting list: parcels with an empty roster end NOT-SENT with ROSTER-EMPTY, and the first with a
roster that is not empty enters the lane (R146). -/
def State.loadFrom (s : State) : List SlotId → State
  | [] => { s with gu := { s.gu with waiting := [] } }
  | k :: rest =>
    if s.roster (s.groupOfSlot k) = 0 then
      (s.setOutcome k (groupOutcome .notSent .rosterEmpty 0 0)).loadFrom rest
    else s.loadLane k rest

/-- The load takes place when the lane is IDLE and the station is MEMBER (R146). -/
def State.load (s : State) : State :=
  if s.gu.lane = none ∧ s.mu.station = .member then s.loadFrom s.gu.waiting else s

/-- A posted group parcel is placed on the waiting list, and the load follows if the lane is IDLE (R144). -/
def State.queueGroup (s : State) (k : SlotId) (urgent : Bool) : State :=
  let w := if urgent then insertAhead (fun j => !s.urgentSlot j) k s.gu.waiting else s.gu.waiting ++ [k]
  { s with gu := { s.gu with waiting := w } }.load

/-! ## The lane (R145, R149 to R154) -/

/-- The missing set: the union of the pending set and the lost set (R151). -/
def Lane.missing (l : Lane) : StationSet := l.pending ||| l.lost

/-- The lane's parcel receives its outcome and the lane becomes IDLE (R151, R153). -/
def State.endLane (s : State) (l : Lane) (code : OutcomeCode) (cause : Cause) : State :=
  let s' := s.setOutcome l.slot (groupOutcome code cause l.answered l.missing)
  { s' with gu := { s'.gu with lane := none } }

/-- The state with this lane record. -/
def State.withLane (s : State) (l : Lane) : State :=
  { s with gu := { s.gu with lane := some l } }

/-- The completion check with the lane record `l`: with the pending set empty the parcel ends, and the load follows
(R151). -/
def State.settleLane (s : State) (l : Lane) : State :=
  if l.pending = 0 then
    (if l.lost = 0 then (s.endLane l .delivered .none).load else (s.endLane l .partly .memberLost).load)
  else s.withLane l

/-- A pending member becomes answered (R150). -/
def Lane.withAnswered (l : Lane) (m : StationId) : Lane :=
  { l with pending := dropStation l.pending m, answered := addStation l.answered m }

/-- A pending member becomes lost (R152). -/
def Lane.withLost (l : Lane) (m : StationId) : Lane :=
  { l with pending := dropStation l.pending m, lost := addStation l.lost m }

/-- An ANSWER with subject GROUP from `m` (R150). -/
def State.groupAnswer (s : State) (m : StationId) (code : AnswerCode) (n : Seq) : State :=
  match s.gu.lane with
  | none => s
  | some l =>
    if n = l.seq ∧ code = .taken ∧ hasStation l.pending m = true then s.settleLane (l.withAnswered m) else s

/-- A member event for `m` at the lane (R152). -/
def State.memberLost (s : State) (m : StationId) : State :=
  match s.gu.lane with
  | none => s
  | some l => if hasStation l.pending m = true then s.settleLane (l.withLost m) else s

/-- The retry step at the expiry of the lane's answer timer (R153). -/
def State.laneRetry (s : State) (l : Lane) : State :=
  if l.retry = s.cfg.retryLimit then (s.endLane l .partly .retriesExhausted).load
  else s.withLane { l with timer := none, retry := l.retry + 1, frameDue := true }

/-- The result of an attempt with the lane's frame: only SENT changes the lane, and only a lane with the same slot
and group sequence takes it (R149). -/
def State.laneSent (s : State) (k : SlotId) (q : Seq) : State :=
  match s.gu.lane with
  | none => s
  | some l =>
    if l.slot = k ∧ l.seq = q then
      s.withLane { l with sentOnce := true, frameDue := false, timer := some s.cfg.answerWait }
    else s

/-- The peer-absent and peer-restart events at the Group Unit: the last group sequence is cleared and the member
moves to lost (R73, R74, R152, R157). -/
def State.groupPeerEvent (s : State) (p : StationId) : State :=
  (s.withLastGroup p none).memberLost p

/-! ## Teardown of the sending side (R155) -/

/-- The lane's parcel counts as sent at least once at a teardown (R155, step 1). -/
def State.laneCountsSent (s : State) (l : Lane) (cause : Cause) : Bool :=
  l.sentOnce || (decide (cause ≠ .clash) && s.sending (.lane l.slot l.seq))

/-- Step 1 of R155: the lane's parcel receives UNCONFIRMED or NOT-SENT. -/
def State.teardownLane (s : State) (cause : Cause) : State :=
  match s.gu.lane with
  | none => s
  | some l => s.endLane l (if s.laneCountsSent l cause then .unconfirmed else .notSent) cause

/-- The station-teardown event at the Group Unit (R155). -/
def State.groupTeardown (s : State) (cause : Cause) : State :=
  let s1 := s.teardownLane cause
  let s2 := s1.setOutcomes s1.gu.waiting fun _ => groupOutcome .notSent cause 0 0
  let s3 := { s2 with gu := { s2.gu with waiting := [] } }
  allStations.foldl (fun s p => s.withLastGroup p none) s3

/-! ## Receiving group parcels (R156) -/

/-- A GROUP frame for a configured group (Table 8-4, rows in order). -/
def State.receiveGroup (s : State) (p : StationId) (g : GroupId) (q : Seq) (payload : List Byte) : State :=
  if s.isPresent p = false then s
  else if (s.peer p).lastGroup = some q then s.answer p .group .taken q
  else if s.answerRoom p .group = false then s
  else match s.freeSlot with
    | some k => ((s.accept k p (.group g) payload).withLastGroup p (some q)).answer p .group .taken q
    | none => s.answer p .group .hold q

end Sys2Proof.Machine
end

