-- ==== Sys2Proof/Machine/Sessions.lean ====
section
/-!
DEFINITION. The Session Unit: tx sessions with their waiting list, handshake, window, answers, timers and breaks
(chapter 6), and the receiving side with its rx records (chapter 7).
-/
namespace Sys2Proof.Machine

open Sys2Proof

/-! ## Creation and the waiting list (R101 to R103) -/

/-- A tx session at its creation by a POST into slot `k` (Table 6-1). -/
def newSession (k : SlotId) : TxSession :=
  { state := .opening, waiting := [⟨k, false⟩], window := [], nextSeq := 0, resend := none, retry := 0, hold := 0,
    held := false, holdTimer := none, answerTimer := none, openDue := true, refusalPause := false,
    openOnLine := false }

/-- A waiting list after a POST: an URGENT parcel goes directly ahead of the first NORMAL one that is not marked
returned, a NORMAL one to the tail (R102). -/
def State.placeWaiting (s : State) (l : List WaitingEntry) (k : SlotId) (urgent : Bool) : List WaitingEntry :=
  if urgent then insertAhead (fun w => !w.returned && !s.urgentSlot w.slot) ⟨k, false⟩ l else l ++ [⟨k, false⟩]

/-- A posted direct parcel reaches the session to `p`, which is created if there is none (R101). -/
def State.queueDirect (s : State) (p : StationId) (k : SlotId) (urgent : Bool) : State :=
  match s.tx p with
  | none => s.withTx p (some (newSession k))
  | some t => s.withTx p (some { t with waiting := s.placeWaiting t.waiting k urgent })

/-- The session to `p` after CANCEL has taken slot `k` from its waiting list (R103). -/
def State.dropWaiting (s : State) (p : StationId) (k : SlotId) : State :=
  match s.tx p with
  | none => s
  | some t =>
    let rest := t.waiting.filter fun w => decide (w.slot ≠ k)
    if t.state = .opening ∧ rest = [] then s.withTx p none else s.withTx p (some { t with waiting := rest })

/-! ## Breaks (R120 to R123) -/

/-- A window entry counts as sent at least once at a break with this cause (R120). -/
def State.countsSent (s : State) (p : StationId) (cause : Cause) (e : WindowEntry) : Bool :=
  s.sentOnce e.slot || (decide (cause ≠ .clash) && s.sending (.window p e.seq))

/-- The outcome of a window entry at a terminal break (R121). -/
def State.breakOutcome (s : State) (p : StationId) (cause : Cause) (e : WindowEntry) : ParcelOutcome :=
  directOutcome (if s.countsSent p cause e then .unconfirmed else .notSent) cause

/-- The terminal break of the session to `p`: its window entries oldest first, its waiting list head first, and the
session is deleted (R121). -/
def State.terminalBreak (s : State) (p : StationId) (cause : Cause) : State :=
  match s.tx p with
  | none => s
  | some t =>
    let s1 := t.window.foldl (fun s' e => s'.setOutcome e.slot (s.breakOutcome p cause e)) s
    let s2 := s1.setOutcomes (t.waiting.map (·.slot)) fun _ => directOutcome .notSent cause
    s2.withTx p none

/-- The session that a reopening break leaves, with this waiting list (R122, steps 3 and 4). -/
def TxSession.reopened (t : TxSession) (waiting : List WaitingEntry) : TxSession :=
  { t with state := .opening, waiting := waiting, window := [], resend := none, retry := 0, hold := 0, held := false,
           holdTimer := none, answerTimer := none, openDue := true, refusalPause := false }

/-- The reopening break of the session to `p` (R122). -/
def State.reopeningBreak (s : State) (p : StationId) (cause : Cause) : State :=
  match s.tx p with
  | none => s
  | some t =>
    let out := t.window.filter (s.countsSent p cause)
    let back := t.window.filter fun e => !s.countsSent p cause e
    let s1 := s.setOutcomes (out.map (·.slot)) fun _ => directOutcome .unconfirmed cause
    let s2 := back.foldl (fun s' e => s'.toWaiting e.slot) s1
    let waiting := back.map (fun e => (⟨e.slot, true⟩ : WaitingEntry)) ++ t.waiting
    s2.withTx p (if waiting = [] then none else some (t.reopened waiting))

/-- The retry step of the session `t` to `p`: at the limit the terminal break, otherwise the retry count rises by 1
and `go` says what else the calling rule changes (R108). -/
def State.retryStep (s : State) (p : StationId) (t : TxSession) (cause : Cause) (go : TxSession → TxSession) : State :=
  if t.retry = s.cfg.retryLimit then (s.withTx p (some t)).terminalBreak p cause
  else s.withTx p (some (go { t with retry := t.retry + 1 }))

/-! ## The OPEN handshake (R104 to R107) -/

/-- The session becomes OPEN (R105). DEDUCED: the mark of an OPEN of its own that is on the line is cleared with it, which no rule
says (log 32). -/
def TxSession.becomeOpen (t : TxSession) : TxSession :=
  { t with state := .opened, nextSeq := 0, window := [], resend := none, retry := 0, hold := 0, openDue := false,
           held := false, refusalPause := false, answerTimer := none, holdTimer := none, openOnLine := false }

/-- An ANSWER with subject OPEN from `p` (R105, R106). -/
def State.openAnswer (s : State) (p : StationId) (code : AnswerCode) (n : Seq) : State :=
  match s.tx p with
  | none => s
  | some t =>
    if t.state = .opened then s
    else match code with
      | .taken => if n = 0 then s.withTx p (some t.becomeOpen) else s
      | .refused =>
        s.retryStep p t .peerUnreachable fun t' =>
          { t' with openDue := false, refusalPause := true, answerTimer := some s.cfg.answerWait }
      | .gap => s
      | .hold => s
      | .noSession => s

/-- The result of an OPEN attempt reaches the session whose OPEN is on the line, in OPENING (R104, R56). -/
def State.openResult (s : State) (p : StationId) (isSent : Bool) : State :=
  match s.tx p with
  | none => s
  | some t =>
    if t.state = .opening ∧ t.openOnLine = true then
      if isSent then
        s.withTx p (some { t with openOnLine := false, openDue := false, answerTimer := some s.cfg.answerWait })
      else s.withTx p (some { t with openOnLine := false })
    else s

/-! ## The window (R109 to R111) -/

/-- The oldest sequence o: that of the oldest window entry, or the next sequence for an empty window (R100). -/
def TxSession.oldest (t : TxSession) : Seq :=
  match t.window with
  | [] => t.nextSeq
  | e :: _ => e.seq

/-- The resend point on the oldest entry of a window, or none if it is empty (R114, R116, R118). -/
def rewound (w : List WindowEntry) : Option Seq := w.head?.map (·.seq)

/-- The entry that follows the entry of sequence `q` (R110). -/
def followerOf (q : Seq) : List WindowEntry → Option Seq
  | [] => none
  | e :: rest => if e.seq = q then rest.head?.map (·.seq) else followerOf q rest

/-- The result of an attempt with the window entry of sequence `q` (R110, R111, R56). -/
def State.windowResult (s : State) (p : StationId) (q : Seq) (isSent : Bool) : State :=
  match s.tx p with
  | none => s
  | some t =>
    match t.window.find? fun e => decide (e.seq = q) with
    | none => s
    | some e =>
      if isSent then
        (s.markSent e.slot).withTx p (some { t with
          resend := if t.resend = some q then followerOf q t.window else t.resend
          answerTimer := if t.answerTimer = none ∧ t.held = false then some s.cfg.answerWait else t.answerTimer })
      else s.withTx p (some { t with resend := if t.resend = none then some q else t.resend })

/-! ## Answers with subject DATA (R112 to R117) -/

/-- The resend point stood on a removed entry. -/
def TxSession.resendGone (t : TxSession) (gone : List WindowEntry) : Bool :=
  gone.any fun e => decide (t.resend = some e.seq)

/-- The resend point after the removal of `gone` from the window: a removed one becomes the oldest remaining entry
(R113, R115). -/
def TxSession.resendAfter (t : TxSession) (gone rest : List WindowEntry) : Option Seq :=
  if t.resendGone gone then rewound rest else t.resend

/-- TAKEN with subject DATA, after the test: `gone` removed, `rest` remaining (R113). -/
def TxSession.onTaken (t : TxSession) (wait : Nat) (gone rest : List WindowEntry) : TxSession :=
  { t with window := rest, retry := 0, hold := 0, resend := t.resendAfter gone rest,
           answerTimer := if t.held then t.answerTimer else if rest = [] then none else some wait }

/-- A GAP or a HOLD that leaves the window empty (R112). -/
def TxSession.onEmptied (t : TxSession) : TxSession :=
  { t with window := [], resend := none, answerTimer := none }

/-- HOLD with subject DATA below the limit (R115). -/
def TxSession.onHold (t : TxSession) (wait : Nat) (gone rest : List WindowEntry) : TxSession :=
  { t with window := rest, resend := t.resendAfter gone rest, hold := t.hold + 1, held := true, answerTimer := none,
           holdTimer := some wait }

/-- The part of a TAKEN, GAP or HOLD after its removals: `gone` removed from the window of `t`, `rest` remaining
(R113, R114, R115). -/
def State.actOnAnswer (s : State) (p : StationId) (t : TxSession) (code : AnswerCode) (gone rest : List WindowEntry) :
    State :=
  match code with
  | .taken => s.withTx p (some (t.onTaken s.cfg.answerWait gone rest))
  | .gap =>
    if rest = [] then s.withTx p (some t.onEmptied)
    else s.retryStep p { t with window := rest } .retriesExhausted fun t' =>
      { t' with resend := rewound rest, answerTimer := none }
  | .hold =>
    if rest = [] then s.withTx p (some t.onEmptied)
    else if t.hold = Config.holdLimit then
      (s.withTx p (some { t with window := rest })).terminalBreak p .heldTooLong
    else s.withTx p (some (t.onHold s.cfg.answerWait gone rest))
  | .noSession => s
  | .refused => s

/-- The number of entries an answer with number `n` acknowledges, the k of R112. -/
def TxSession.acked (t : TxSession) (n : Seq) : Nat := (n - t.oldest).val

/-- An ANSWER with subject DATA from `p` (R112, R117). -/
def State.dataAnswer (s : State) (p : StationId) (code : AnswerCode) (n : Seq) : State :=
  match s.tx p with
  | none => s
  | some t =>
    if t.state = .opening ∨ code = .refused then s
    else if code = .noSession then s.reopeningBreak p .noSession
    else if t.window.length < t.acked n then s
    else
      let gone := t.window.take (t.acked n)
      let s1 := s.setOutcomes (gone.map (·.slot)) fun _ => directOutcome .delivered .none
      s1.actOnAnswer p t code gone (t.window.drop (t.acked n))

/-! ## Timers (R107, R116, R118) -/

/-- The expiry of the answer timer in OPENING (R107). -/
def State.openTimerExpiry (s : State) (p : StationId) (t : TxSession) : State :=
  let t' := { t with answerTimer := none, openDue := true }
  if t.refusalPause then s.withTx p (some { t' with refusalPause := false })
  else s.retryStep p t' .peerUnreachable id

/-- The expiry of the answer timer in OPEN: a retry step and a rewind (R118). -/
def State.dataTimerExpiry (s : State) (p : StationId) (t : TxSession) : State :=
  s.retryStep p { t with answerTimer := none } .retriesExhausted fun t' => { t' with resend := rewound t.window }

/-- The session after the expiry of the hold timer (R116). -/
def TxSession.holdEnded (t : TxSession) : TxSession :=
  { t with holdTimer := none, held := false, resend := rewound t.window }

/-! ## Events from the Membership Unit (R123) -/

/-- The peer-absent event at the Session Unit (R123). -/
def State.sessionPeerAbsent (s : State) (p : StationId) (cause : Cause) : State :=
  (s.withRx p none).terminalBreak p cause

/-- The peer-restart event at the Session Unit (R123). -/
def State.sessionPeerRestart (s : State) (p : StationId) : State :=
  (s.withRx p none).reopeningBreak p .peerRestarted

/-- The station-teardown event at the Session Unit: every break in ascending order of the peers, every rx record
dropped, the answer queue emptied (R123, R141). -/
def State.sessionTeardown (s : State) (cause : Cause) : State :=
  let s1 := allStations.foldl (fun s' p => s'.terminalBreak p cause) s
  let s2 := allStations.foldl (fun s' p => s'.withRx p none) s1
  { s2 with answers := [] }

/-! ## The receiving side (R127 to R134) -/

/-- An OPEN from `p` to this station (R127, R128). -/
def State.receiveOpen (s : State) (p : StationId) : State :=
  if s.answerRoom p .openReq = false then s
  else if s.isPresent p then (s.withRx p (some 0)).answer p .openReq .taken 0
  else s.answer p .openReq .refused 0

/-- A DATA frame from `p` with sequence `q` to this station (R130 to R134, Table 7-1). -/
def State.receiveData (s : State) (p : StationId) (q : Seq) (payload : List Byte) : State :=
  if s.answerRoom p .data = false then s
  else match (s.peer p).rx with
    | none => s.answer p .data .noSession 0
    | some e =>
      if e - q = 0 then
        match s.freeSlot with
        | some k => ((s.accept k p .direct payload).withRx p (some (e + 1))).answer p .data .taken (e + 1)
        | none => s.answer p .data .hold e
      else if (e - q).val ≤ 4 then s.answer p .data .taken e
      else s.answer p .data .gap e

end Sys2Proof.Machine
end

