-- ==== Sys2Proof/Machine/Membership.lean ====
section
/-!
DEFINITION. The Membership Unit (chapter 4): entry to JOINING and to MEMBER, rolls and ageing, the loss and the restart
of a peer, the teardown, clashes, the eighth failure and the ways a leave ends.
-/
namespace Sys2Proof.Machine

open Sys2Proof

/-! ## Joining (R64 to R66) -/

/-- Entry to JOINING: the join timer runs for two roll intervals, the other timers and the roll flags are cleared, and the
Transmit Unit clears its failure count and its deferred flag (R64, R39). -/
def State.enterJoining (s : State) : State :=
  let s' := s.become .joining
  { s' with
    mu := { s'.mu with joinTimer := some (2 * s.cfg.rollMillis), rollTimer := none, leaveTimer := none,
                       rollDue := false, joinedPending := false, leaveExpired := false, rollOnLine := .off }
    tu := { s'.tu with failures := 0, deferred := false } }

/-- The join timer runs out in JOINING (R66). -/
def State.joinDone (s : State) : State :=
  let s' := s.become .member
  ({ s' with mu := { s'.mu with joinTimer := none, rollDue := true, joinedPending := true,
                                rollTimer := some s.cfg.rollMillis } }).raise .joinDone none

/-! ## Losing and restarting a peer (R73, R74) -/

/-- The entry of `p` becomes ABSENT with this cause: presence first, then the Session Unit, then the Group Unit (R74). The
notice follows it. -/
def State.peerAbsent (s : State) (p : StationId) (cause : Cause) : State :=
  ((s.withPresence p .absent 0 0).sessionPeerAbsent p cause).groupPeerEvent p

/-- The peer-restart event for `p`: the Session Unit, then the Group Unit (R73). -/
def State.peerRestart (s : State) (p : StationId) : State :=
  (s.sessionPeerRestart p).groupPeerEvent p

/-! ## Rolls and ageing (R65, R67, R68, R70 to R73) -/

/-- Liveness: the silence of a PRESENT source becomes 0 (R70). -/
def State.liveness (s : State) (p : StationId) : State :=
  if s.isPresent p then s.withPeer p { s.peer p with silence := 0 } else s

/-- The groups of a PRESENT entry are replaced and its silence is 0 (R72, R73). -/
def State.takeGroups (s : State) (p : StationId) (groups : GroupSet) : State :=
  s.withPresence p .present groups 0

/-- A ROLL in JOINING, after the liveness step (R65). -/
def State.rollInJoining (s : State) (p : StationId) (groups : GroupSet) (flags : Byte) : State :=
  match (s.peer p).presence, partingFlag flags with
  | .absent, false => s.takeGroups p groups
  | .absent, true => s
  | .present, false => s.takeGroups p groups
  | .present, true => s.withPresence p .absent 0 0
  | .self, _ => s

/-- A ROLL in MEMBER, after the liveness step (R71, R72, R73). -/
def State.rollInMember (s : State) (p : StationId) (groups : GroupSet) (flags : Byte) : State :=
  match (s.peer p).presence with
  | .absent => if partingFlag flags then s else (s.takeGroups p groups).raise .peerJoined (some p)
  | .present =>
    if joinedFlag flags then ((s.peerRestart p).takeGroups p groups).raise .peerRestarted (some p)
    else if partingFlag flags then (s.peerAbsent p .peerLeft).raise .peerLeft (some p)
    else s.takeGroups p groups
  | .self => s

/-- One more interval of silence for a PRESENT entry (R68). -/
def State.ageOne (s : State) (p : StationId) : State :=
  if s.isPresent p then s.withPeer p { s.peer p with silence := (s.peer p).silence + 1 } else s

/-- A PRESENT entry whose silence has reached 3 becomes ABSENT with PEER-LOST and its notice (R68). -/
def State.loseOne (s : State) (p : StationId) : State :=
  if s.isPresent p ∧ Config.silenceLimit ≤ (s.peer p).silence then
    (s.peerAbsent p .peerLost).raise .peerLost (some p)
  else s

/-- Ageing at a roll timer expiry, the losses in ascending station number (R68). -/
def State.age (s : State) : State :=
  allStations.foldl State.loseOne (allStations.foldl State.ageOne s)

/-- The roll timer expires in MEMBER (R67). -/
def State.rollExpiry (s : State) : State :=
  ({ s with mu := { s.mu with rollDue := true, rollTimer := some s.cfg.rollMillis } }).age

/-! ## Teardown (R75) -/

/-- Every entry other than SELF becomes ABSENT with the empty group set and silence 0 (R75, step 3). -/
def State.clearPeers (s : State) : State :=
  allStations.foldl (fun s p => if (s.peer p).presence = .self then s else s.withPresence p .absent 0 0) s

/-- Steps 1 to 4 of the teardown; its notice follows (R75). -/
def State.teardown (s : State) (cause : Cause) : State :=
  let s1 := ((s.sessionTeardown cause).groupTeardown cause).clearPeers
  { s1 with mu := { s1.mu with rollTimer := none, joinTimer := none, rollDue := false, joinedPending := false,
                               rollOnLine := if cause = .stationLeft then s1.mu.rollOnLine else .off } }

/-! ## Leaving (R78 to R81) -/

/-- LEAVE taken in MEMBER: LEAVING, the teardown, then the PART roll is due and the leave timer runs (R78). -/
def State.beginLeave (s : State) : State :=
  let s' := (s.become .leaving).teardown .stationLeft
  { s' with mu := { s'.mu with rollDue := true, leaveTimer := some s.cfg.rollMillis, leaveExpired := false } }

/-- The leave completes: DETACHED, with the notice LEFT (R79, R80). An attempt that is still on the line ends with the change of
state (R40); that this also holds for one that is no roll, at the expiry of the leave timer, is the model's choice (log 30). -/
def State.leaveDone (s : State) : State :=
  let s' := s.become .detached
  ({ s' with mu := { s'.mu with leaveTimer := none, rollDue := false, leaveExpired := false,
                                rollOnLine := .off } }).raise .left none

/-- LEAVE taken in JOINING or SILENCED: DETACHED at once, with the notice LEFT (R81). -/
def State.leaveAtOnce (s : State) : State :=
  let s' := (s.become .detached).clearPeers
  ({ s' with mu := { s'.mu with joinTimer := none } }).raise .left none

/-- The leave timer runs out in LEAVING (R80). With a roll on the line the timer that has run out is stopped, which is the model's
reading (log 29). -/
def State.leaveExpiry (s : State) : State :=
  if s.mu.rollOnLine = .off then s.leaveDone
  else { s with mu := { s.mu with leaveTimer := none, leaveExpired := true } }

/-- The end of a roll attempt at the Membership Unit (R69, R79). -/
def State.rollResult (s : State) (joined isSent : Bool) : State :=
  if s.mu.rollOnLine = .off then s
  else
    let s' := { s with mu := { s.mu with rollOnLine := .off } }
    match s.mu.station with
    | .member =>
      if isSent then
        { s' with mu := { s'.mu with rollDue := false, joinedPending := s'.mu.joinedPending && !joined } }
      else s'
    | .leaving => if s.mu.leaveExpired = true ∨ (s.mu.rollOnLine = .part ∧ isSent = true) then s'.leaveDone else s'
    | _ => s'

/-! ## The eighth failure and clashes (R76, R77) -/

/-- The eighth-failure event by station state (R76). -/
def State.eighthFailure (s : State) : State :=
  match s.mu.station with
  | .member => ((s.become .silenced).teardown .transmitFault).raise .silenced none
  | .leaving =>
    if s.mu.leaveExpired then s.leaveDone
    else
      let s' := s.become .silenced
      ({ s' with mu := { s'.mu with leaveTimer := none, rollDue := false, rollOnLine := .off } }).raise .silenced none
  | _ => s

/-- A clash handed over by the Frame Receiver (R77, R34). -/
def State.onClash (s : State) : State :=
  match s.mu.station with
  | .member => ((s.become .halted).teardown .clash).raise .halted none
  | .joining =>
    let s' := (s.become .halted).clearPeers
    ({ s' with mu := { s'.mu with joinTimer := none } }).raise .halted none
  | _ => s

end Sys2Proof.Machine
end

