-- ==== Sys2Proof/Machine/Receive.lean ====
section
/-!
DEFINITION. The dispatch of valid frames by station state, liveness, deferral and destination (section 2.5), and the
event of a frame's closing.
-/
namespace Sys2Proof.Machine

open Sys2Proof

/-- A data frame from another station has passed: the deferred flag is cleared (R36, step 2, and R55). -/
def State.clearDeferral (s : State) (m : Msg) : State :=
  if m.isDataClass then { s with tu := { s.tu with deferred := false } } else s

/-- The destination filter (R37, Table 2-8). -/
def State.filterDest (s : State) : Msg → State
  | .data _ src dst q payload => if dst = s.mu.number then s.receiveData src q payload else s
  | .openReq src dst _ => if dst = s.mu.number then s.receiveOpen src else s
  | .answer src dst .data code n => if dst = s.mu.number then s.dataAnswer src code n else s
  | .answer src dst .openReq code n => if dst = s.mu.number then s.openAnswer src code n else s
  | .answer src dst .group code n => if dst = s.mu.number then s.groupAnswer src code n else s
  | .group _ src g q payload => if hasGroup s.cfg.groups g then s.receiveGroup src g q payload else s
  | .roll src _ groups flags => s.rollInMember src groups flags

/-- The dispatch of a valid frame from another station in MEMBER: liveness, deferral, destination (R36). -/
def State.dispatchMember (s : State) (m : Msg) : State :=
  ((s.liveness m.src).clearDeferral m).filterDest m

/-- The use made of a valid frame from another station in JOINING: only ROLL frames act (R35, R65). -/
def State.dispatchJoining (s : State) : Msg → State
  | .roll src _ groups flags => (s.liveness src).rollInJoining src groups flags
  | _ => s

/-- The use made of a valid frame that is not the own frame (R34, R35, Table 2-7). -/
def State.useFrame (s : State) (m : Msg) : State :=
  if m.src = s.mu.number then s.onClash
  else match s.mu.station with
    | .joining => s.dispatchJoining m
    | .member => s.dispatchMember m
    | _ => s

/-- The state at the sample that completes a closing mark: the Line Monitor at the mark and the Frame Receiver back in
SEEK (R10, R28). A frame row stands for the frame's bits as well, and the record before it is not looked at: a line that was HELD is
ACTIVE with no released event and no notice, which is the model's choice (log 12). -/
def State.atClosingMark (s : State) : State :=
  { s with lm := .atMark, fr := .seeking }

/-- A frame of another station closes at this station: one that Table 2-6 does not allow is discarded (R31, R32). While
RSTN is low no sample is taken (R17). No bit boundary passes at a frame row, which is the model's choice (log 12): LOUT stays as it
stands, low when the row directly follows SENT, and a start point that was still to come after a quiet run of 10 or more is lost. -/
def State.frameCloses (s : State) (m : Msg) : State :=
  if s.inReset then s
  else if m.valid then s.atClosingMark.useFrame m
  else s.atClosingMark

end Sys2Proof.Machine
end

