-- ==== Sys2Proof/Machine/Transmit.lean ====
section
/-!
DEFINITION. The Transmit Unit (chapter 3): candidates and their choice, the start of an attempt, readback, the results and
what each owner does with them, break-off and the held event.
-/
namespace Sys2Proof.Machine

open Sys2Proof

/-! ## Candidates (R42, R43, Table 3-3) -/

/-- A candidate: its frame, the item of its owner, its position if it is a data frame, and whether its parcel is the
head of a waiting list and enters the window when the attempt starts (R109). -/
structure Offer where
  frame    : Frame
  owner    : Owner
  position : Option Position
  entering : Bool
  deriving DecidableEq, Repr

/-- The answer queue's candidate: its oldest entry that is not on the line (R138). -/
def State.answerOffer (s : State) : Option Offer :=
  (s.answers.find? fun e => !e.onLine).map fun e =>
    ⟨(Msg.answer s.mu.number e.dest e.subject e.code e.number).toFrame, .answer, none, false⟩

/-- The Membership Unit's candidate: one ROLL while roll-due is set (R69). -/
def State.rollOffer (s : State) : Option Offer :=
  if s.mu.rollDue then
    some ⟨(Msg.roll s.mu.number 0 s.cfg.groups
      (rollFlags s.mu.joinedPending (decide (s.mu.station = .leaving)))).toFrame,
      .roll s.mu.joinedPending, none, false⟩
  else none

/-- The tx session to `p` is in OPENING with OPEN-due set (R104). -/
def State.openIsDue (s : State) (p : StationId) : Bool :=
  match s.tx p with
  | some t => decide (t.state = .opening) && t.openDue
  | none => false

/-- The OPEN request with the lowest peer station number (R44). -/
def State.openOffer (s : State) : Option Offer :=
  (allStations.find? s.openIsDue).map fun p =>
    ⟨(Msg.openReq s.mu.number p 0).toFrame, .openReq p, none, false⟩

/-- The DATA frame of the parcel in slot `k` with sequence `q` to `p` (R20, R109). -/
def State.dataOffer (s : State) (p : StationId) (k : SlotId) (q : Seq) (entering : Bool) : Option Offer :=
  (s.slot k).parcel.map fun c =>
    ⟨(Msg.data c.urgent s.mu.number p q c.payload).toFrame, .window p q, some ⟨p.val, by omega⟩, entering⟩

/-- The candidate of the tx session to `p`: the resend-point entry, or the head of the waiting list while the window
has room (R43, R109). -/
def State.sessionOffer (s : State) (p : StationId) : Option Offer :=
  match s.tx p with
  | none => none
  | some t =>
    if t.state = .opening ∨ t.held = true then none
    else match t.resend with
      | some q =>
        match t.window.find? fun e => decide (e.seq = q) with
        | some e => s.dataOffer p e.slot q false
        | none => none
      | none =>
        if t.window.length < s.cfg.window then
          match t.waiting with
          | w :: _ => s.dataOffer p w.slot t.nextSeq true
          | [] => none
        else none

/-- The group lane's candidate, while BUSY with frame-due set (R149). -/
def State.laneOffer (s : State) : Option Offer :=
  match s.gu.lane with
  | none => none
  | some l =>
    if l.frameDue then
      (s.slot l.slot).parcel.map fun c =>
        ⟨(Msg.group c.urgent s.mu.number l.group l.seq c.payload).toFrame, .lane l.slot l.seq, some 32, false⟩
    else none

/-- The data candidate at a position (Table 3-3). -/
def State.offerAt (s : State) (i : Position) : Option Offer :=
  if h : i.val < 32 then s.sessionOffer ⟨i.val, h⟩ else s.laneOffer

/-- The positions from the round-robin pointer on, cyclically (R44). -/
def positionsFrom (i : Position) : List Position :=
  (List.finRange 33).map (i + ·)

/-- The chosen data candidate: the first of class 2 from the pointer on, or else the first of class 3 (R44). -/
def State.dataChoice (s : State) : Option Offer :=
  let offers := (positionsFrom s.tu.pointer).filterMap s.offerAt
  match offers.find? fun o => decide (o.frame.cls = 2) with
  | some o => some o
  | none => offers.head?

/-- The candidate the Transmit Unit takes at a start point (R41 to R44): in LEAVING the PART roll only; in MEMBER the
best class, and data only while the deferred flag is clear. -/
def State.choice (s : State) : Option Offer :=
  match s.mu.station with
  | .leaving => s.rollOffer
  | .member =>
    match s.answerOffer with
    | some o => some o
    | none =>
      match s.rollOffer with
      | some o => some o
      | none =>
        match s.openOffer with
        | some o => some o
        | none => if s.tu.deferred then none else s.dataChoice
  | _ => none

/-! ## The start of an attempt (R45, Table 3-5) -/

/-- The queue with its oldest entry that is not on the line marked on-line (R138). -/
def markOldest : List AnswerEntry → List AnswerEntry
  | [] => []
  | e :: rest => if e.onLine then e :: markOldest rest else { e with onLine := true } :: rest

/-- The head of the waiting list enters the window at its tail and becomes IN-FLIGHT (R109, R91). -/
def State.enterWindow (s : State) (p : StationId) : State :=
  match s.tx p with
  | none => s
  | some t =>
    match t.waiting with
    | [] => s
    | w :: rest =>
      (s.toInFlight w.slot).withTx p (some { t with
        waiting := rest, window := t.window ++ [⟨w.slot, t.nextSeq⟩], nextSeq := t.nextSeq + 1 })

/-- What the owner does when its item goes on the line (Table 3-5). -/
def State.putOnLine (s : State) (o : Offer) : State :=
  match o.owner with
  | .answer => { s with answers := markOldest s.answers }
  | .roll _ => { s with mu := { s.mu with rollOnLine := if s.mu.station = .leaving then .part else .ordinary } }
  | .openReq p =>
    match s.tx p with
    | some t => s.withTx p (some { t with openOnLine := true, answerTimer := none })
    | none => s
  | .window p _ => if o.entering then s.enterWindow p else s
  | .lane _ _ => s

/-- The Transmit Unit at the start of an attempt: the frame copied, CONTEND, the first dominant bit driven (R45). -/
def TransmitUnit.begin (t : TransmitUnit) (o : Offer) : TransmitUnit :=
  { t with state := .contend, buffer := some ⟨o.frame, o.owner, o.position⟩, lineBits := 0, arbitrationBits := 0,
           breakoffBits := 0, lout := dominant }

/-- An attempt starts with this candidate (R45). -/
def State.startAttempt (s : State) (o : Offer) : State :=
  let s' := s.putOnLine o
  { s' with tu := s'.tu.begin o }

/-- What the Transmit Unit does at a start point (R41): nothing unless it is in WAIT and the station is MEMBER or
LEAVING with an eligible candidate. -/
def State.atStartPoint (s : State) : State :=
  if s.tu.state = .wait then
    match s.choice with
    | some o => s.startAttempt o
    | none => s
  else s

/-! ## Results (R47, R50, R53, R56) -/

/-- The result SENT, LOST or FAILED of an attempt with an answer-queue entry (R139, R140). -/
def queueAfterResult (l : List AnswerEntry) (isSent : Bool) : List AnswerEntry :=
  if isSent then l.eraseP (·.onLine)
  else match l.find? (·.onLine) with
    | none => l
    | some e =>
      if l.any (·.waitsFor e.dest e.subject) then l.eraseP (·.onLine)
      else l.map fun a => if a.onLine then { a with onLine := false } else a

/-- The result of an attempt reaches its owner; `isSent` is clear for LOST and for FAILED (R56). -/
def State.tellOwner (s : State) (o : Owner) (isSent : Bool) : State :=
  match o with
  | .answer => { s with answers := queueAfterResult s.answers isSent }
  | .roll joined => s.rollResult joined isSent
  | .openReq p => s.openResult p isSent
  | .window p q => s.windowResult p q isSent
  | .lane k q => if isSent then s.laneSent k q else s

/-- The result reaches the owner of the frame in the buffer `b`, if there is one. -/
def State.tellBuffer (s : State) (b : Option TransmitBuffer) (isSent : Bool) : State :=
  match b with
  | some x => s.tellOwner x.owner isSent
  | none => s

/-- The result LOST (R47). LOUT is high already, and stays so. -/
def State.attemptLost (s : State) : State :=
  ({ s with tu := s.tu.toWait }).tellBuffer s.tu.buffer false

/-- The Transmit Unit at SENT: the failure count is cleared, and a data frame sets the deferred flag and moves the
pointer to its position plus 1, modulo 33 (R53). LOUT is released at the next bit boundary. -/
def TransmitUnit.afterSent (t : TransmitUnit) : TransmitUnit :=
  match t.buffer.bind (·.position) with
  | some i => { t.toWait with failures := 0, deferred := true, pointer := i + 1 }
  | none => { t.toWait with failures := 0 }

/-- The result SENT (R53). -/
def State.attemptSent (s : State) : State :=
  ({ s with tu := s.tu.afterSent }).tellBuffer s.tu.buffer true

/-- The Transmit Unit at FAILED: the line released, WAIT, the failure count increased up to 8 (R50, R54). -/
def TransmitUnit.afterFailed (t : TransmitUnit) : TransmitUnit :=
  { t.toWait with lout := recessive, failures := min Config.failureLimit (t.failures + 1) }

/-- The result FAILED: the owner is told, and a count of 8 gives the eighth-failure event (R50, R51, R54). -/
def State.attemptFailed (s : State) : State :=
  let s' := ({ s with tu := s.tu.afterFailed }).tellBuffer s.tu.buffer false
  if s.tu.afterFailed.failures = Config.failureLimit then s'.eighthFailure else s'

/-! ## Readback (R46, R48, R49, R50) -/

/-- What the readback of the current bit shows. -/
inductive Readback where
  /-- No attempt in progress. -/
  | idle
  /-- The level driven, with more bits to follow. -/
  | matched
  /-- The level driven, on the last bit of the closing mark in SEND. -/
  | finished
  /-- A bit driven recessive reads dominant in CONTEND. -/
  | lost
  /-- A difference in SEND, or a dominant bit read recessive in CONTEND. -/
  | mismatched
  /-- A break-off bit, whatever it reads. -/
  | breaking
  deriving DecidableEq, Repr

/-- The line bits of the attempt in progress (R5, R6). -/
def TransmitUnit.bits (t : TransmitUnit) : List LineBit :=
  match t.buffer with
  | some b => b.frame.lineBits
  | none => []

/-- The current bit is the last of the attempt. -/
def TransmitUnit.onLastBit (t : TransmitUnit) : Bool :=
  decide (t.bits.length = t.lineBits + 1)

/-- The readback of a sample (R46, R48, R50). -/
def TransmitUnit.readback (t : TransmitUnit) (b : Level) : Readback :=
  match t.state with
  | .wait => .idle
  | .contend => if t.lout = b then .matched else if b = dominant then .lost else .mismatched
  | .send => if t.lout = b then (if t.onLastBit then .finished else .matched) else .mismatched
  | .breakoff => .breaking

/-- The current bit is a content bit. -/
def TransmitUnit.onContentBit (t : TransmitUnit) : Bool :=
  match t.bits[t.lineBits]? with
  | some x => x.isContent
  | none => false

/-- A matching readback moves the attempt on; the seventh arbitration bit enters SEND (R46, R48). -/
def TransmitUnit.moveOn (t : TransmitUnit) : TransmitUnit :=
  let n := if t.onContentBit = true ∧ t.arbitrationBits < Config.arbitrationLength then t.arbitrationBits + 1
    else t.arbitrationBits
  { t with lineBits := t.lineBits + 1, arbitrationBits := n,
           state := if n = Config.arbitrationLength then .send else t.state }

/-- The readback of a sample acts on the attempt (R46 to R50). -/
def State.onReadback (s : State) (b : Level) : State :=
  match s.tu.readback b with
  | .idle => s
  | .matched => { s with tu := s.tu.moveOn }
  | .finished => s.attemptSent
  | .lost => s.attemptLost
  | .mismatched => { s with tu := { s.tu with state := .breakoff, breakoffBits := 0 } }
  | .breaking => { s with tu := { s.tu with breakoffBits := min Config.breakoffLength (s.tu.breakoffBits + 1) } }

/-- The held event at the Transmit Unit: an attempt in CONTEND, SEND or BREAKOFF is FAILED at once (R50, R51, R60). -/
def State.tuHeld (s : State) : State :=
  if s.tu.state = .wait then s else s.attemptFailed

end Sys2Proof.Machine
end

