-- ==== Sys2Proof/Machine/Sampling.lean ====
section
/-!
DEFINITION. One bit of the line through every block: the bit boundary, the sample with all that it brings about, and the
meanings of the rows of the table that name what a sample or a boundary brings about.
-/
namespace Sys2Proof.Machine

open Sys2Proof

/-! ## The bit boundary (R1, R3, R13, R50) -/

/-- The level the Transmit Unit drives in the bit that begins (R1, R5, R46, R48, R49). -/
def TransmitUnit.nextLevel (t : TransmitUnit) : Level :=
  match t.state with
  | .wait => recessive
  | .breakoff => dominant
  | _ => match t.bits[t.lineBits]? with
    | some x => x.level
    | none => recessive

/-- A bit ends and the next begins: LOUT takes the next bit's level (R1, R3). -/
def State.nextBit (s : State) : State :=
  { s with lm := { s.lm with sampled := false }, tu := { s.tu with lout := s.tu.nextLevel } }

/-- The twelve bits of the break-off have been driven (R50). -/
def State.breakoffOver (s : State) : Bool :=
  decide (s.tu.state = .breakoff ∧ s.tu.breakoffBits = Config.breakoffLength)

/-- The current bit's boundary is a start point: its sample left the quiet-run length at 10 or more (R13). -/
def State.startPointNext (s : State) : Bool :=
  decide (Config.quietLength ≤ s.lm.quietRun)

/-- The boundary at the end of a sampled bit: the end of a break-off, a start point, or neither (R13, R41, R50; log 6). -/
def State.boundary (s : State) : State :=
  if s.breakoffOver then s.nextBit.attemptFailed
  else if s.startPointNext then s.nextBit.atStartPoint
  else s.nextBit

/-- The state in which the sample of a bit is taken: the boundary that ended the bit before has passed (R3). -/
def State.atBit (s : State) : State :=
  if s.lm.sampled then s.boundary else s

/-! ## The sample (R10 to R16, R26, R27, R46) -/

/-- The notices and the deferred flag that a sample's line changes bring (R14, R16). -/
def State.lineEvents (s : State) (lm : LineMonitor) (b : Level) : State :=
  let s1 := if lm.longQuietOn b then { s with tu := { s.tu with deferred := false } } else s
  if s.mu.station = .detached then s1
  else if lm.entersHeld b then s1.raise .lineHeld none
  else if lm.leavesHeld b then s1.raise .lineReleased none
  else s1

/-- The closing mark that ends now is the one the current attempt drives in SEND (R33). -/
def State.ownClosing (s : State) (b : Level) : Bool :=
  decide (s.tu.readback b = .finished)

/-- A frame closed in GATHER with these contents: discarded, the own frame, or used (R28 to R35). -/
def State.onClosed (s : State) (own stuffDue : Bool) (crc : BitVec 16) (content : List Bool) : State :=
  match checkClosed stuffDue crc content with
  | none => s
  | some m => if own then s else s.useFrame m

/-- The Frame Receiver takes the sample with its report; a frame that closes is judged and used (R25 to R28). -/
def State.receive (s : State) (own : Bool) (b : Level) (r : Option RunReport) : State :=
  let s' := { s with fr := (s.fr.sample b r).1 }
  match (s.fr.sample b r).2 with
  | .closed stuffDue crc content => s'.onClosed own stuffDue crc content
  | _ => s'

/-- The held event at the Frame Receiver and the Transmit Unit (R15). -/
def State.onHeld (s : State) : State :=
  ({ s with fr := s.fr.onHeld }).tuHeld

/-- The sample of the current bit at every block: the Line Monitor's record and its events, the readback, the held
event, the Frame Receiver (R10; the order of the blocks is log 5). -/
def State.takeSample (s : State) (b : Level) : State :=
  let s1 := { s.lineEvents s.lm b with lm := s.lm.afterSample b }
  let s2 := s1.onReadback b
  let s3 := if s.lm.entersHeld b then s2.onHeld else s2
  s3.receive (s.ownClosing b) b (s.lm.reportOn b)

/-- A sample of level `b` at the next sample point; no sample is taken while RSTN is low (R3, R17). -/
def State.sample (s : State) (b : Level) : State :=
  if s.inReset then s else s.atBit.takeSample b

/-! ## Meanings

A row that names what one sample or boundary brings about has that sample's or that boundary's whole effect when it brings it
about. In any other state the event the row names does not take place, and nothing changes (log 7). -/

/-- The sample of level `b`, when `due` holds of the state in which it is taken. -/
def State.sampleIf (s : State) (due : State → Bool) (b : Level) : State :=
  if s.inReset = false ∧ due s.atBit = true then s.atBit.takeSample b else s

/-- LINE_SAMPLE (R10 and the rules of every block that takes the sample). -/
def execLineSample (level : Level) (s : State) : Host.Outcome State Fault Refusal := .next (s.sample level)

/-- LINE_QUIET: the tenth recessive sample of a run (R12). -/
def execLineQuiet (s : State) : Host.Outcome State Fault Refusal :=
  .next (s.sampleIf (fun t => t.lm.entersQuiet recessive) recessive)

/-- LONG_QUIET: the 24th recessive sample of a run (R14). -/
def execLongQuiet (s : State) : Host.Outcome State Fault Refusal :=
  .next (s.sampleIf (fun t => t.lm.longQuietOn recessive) recessive)

/-- LINE_HELD: the dominant sample that makes the line HELD (R15, R16, R51). -/
def execLineHeld (s : State) : Host.Outcome State Fault Refusal :=
  .next (s.sampleIf (fun t => t.lm.entersHeld dominant) dominant)

/-- LINE_RELEASED: the first recessive sample after HELD (R15, R16). -/
def execLineReleased (s : State) : Host.Outcome State Fault Refusal :=
  .next (s.sampleIf (fun t => t.lm.leavesHeld recessive) recessive)

/-- The sample discards the frame being gathered by a VIOLATION report or a stuff error (R26, R27). -/
def State.violates (s : State) (b : Level) : Bool :=
  match (s.fr.sample b (s.lm.reportOn b)).2 with
  | .violation => true
  | .stuffError => true
  | _ => false

/-- FRAME_VIOLATION (R27). -/
def execFrameViolation (level : Level) (s : State) : Host.Outcome State Fault Refusal :=
  .next (s.sampleIf (fun t => t.violates level) level)

/-- OPENING_MARK: a MARK report in SEEK (R25). -/
def execOpeningMark (s : State) : Host.Outcome State Fault Refusal :=
  .next (s.sampleIf (fun t => decide (t.fr.state = .seek ∧ t.lm.reportOn dominant = some .mark)) dominant)

/-- FRAME_CLOSE: a MARK report in GATHER (R28). -/
def execFrameClose (s : State) : Host.Outcome State Fault Refusal :=
  .next (s.sampleIf (fun t => decide (t.fr.state = .gather ∧ t.lm.reportOn dominant = some .mark)) dominant)

/-- LOST_CONTENTION (R47). -/
def execLostContention (s : State) : Host.Outcome State Fault Refusal :=
  .next (s.sampleIf (fun t => decide (t.tu.readback dominant = .lost)) dominant)

/-- MISMATCH: the sample differs from the level driven and is no lost contention (R49). -/
def execMismatch (s : State) : Host.Outcome State Fault Refusal :=
  .next (s.sampleIf (fun t => decide (t.tu.readback (!t.tu.lout) = .mismatched)) (!s.atBit.tu.lout))

/-- SENT: the final bit of the closing mark reads back dominant (R52, R53). -/
def execSent (s : State) : Host.Outcome State Fault Refusal :=
  .next (s.sampleIf (fun t => decide (t.tu.readback dominant = .finished)) dominant)

/-- START_POINT: the boundary of a bit whose sample left the quiet run at 10 or more (R13, R41). -/
def execStartPoint (s : State) : Host.Outcome State Fault Refusal :=
  .next (if s.inReset = false ∧ s.lm.sampled = true ∧ s.startPointNext = true then s.boundary else s)

/-- BREAKOFF_END: the boundary after the twelfth dominant bit (R50). -/
def execBreakoffEnd (s : State) : Host.Outcome State Fault Refusal :=
  .next (if s.inReset = false ∧ s.lm.sampled = true ∧ s.breakoffOver = true then s.boundary else s)

/-- An edge past the sample point ends the current bit and begins the next one (R3). In the sample point's own CLKIN period
the sample takes the level before the edge: one that has not been given yet comes with the edge, recessive. -/
def State.endBitAtEdge (s : State) : State :=
  if s.lm.sampled then s.boundary else (s.takeSample recessive).boundary

/-- RESYNCHRONISATION (R3). Before the sample point the edge moves the start of the bit it falls in, whose sample is still to
come. Past it the edge ends the bit, unless LOUT is low. A bit has no CLKIN period at or beyond its BT (Table 1-1), so no edge
falls there (log 7). -/
def execResynchronisation (clocks : Nat) (s : State) : Host.Outcome State Fault Refusal :=
  .next (
    if s.inReset = true ∨ bitClocks s.mu.rate ≤ clocks then s
    else if clocks < sampleClocks s.mu.rate then s.atBit
    else if s.tu.lout = recessive then s.endBitAtEdge
    else s)

end Sys2Proof.Machine
end

