-- ==== Sys2Proof/Machine/Flags.lean ====
section
/-!
DEFINITION. The flags and encodings the outside reads: ATN, the codes of section 11.4, and the records that STATUS, PEER,
FETCH and REPORT return.
-/
namespace Sys2Proof.Machine

open Sys2Proof

/-- ATN is asserted: the delivered list or the report list is not empty, and RSTN is high (R176). -/
def State.atn (s : State) : Bool :=
  !s.inReset && (!s.delivered.isEmpty || !s.report.isEmpty)

/-- A number as a byte. -/
def byteOf (n : Nat) : Byte := BitVec.ofNat 8 n

/-- A 16-bit number, most significant byte first (chapter 11). -/
def bytes16 (v : BitVec 16) : List Byte := [v.extractLsb' 8 8, v.extractLsb' 0 8]

/-- A set of stations as four bytes, most significant first (section 11.3). -/
def bytes32 (v : StationSet) : List Byte :=
  [v.extractLsb' 24 8, v.extractLsb' 16 8, v.extractLsb' 8 8, v.extractLsb' 0 8]

/-- Table 11-11. -/
def StationState.code : StationState → Nat
  | .detached => 0
  | .joining => 1
  | .member => 2
  | .leaving => 3
  | .silenced => 4
  | .halted => 5

/-- Table 11-8, byte 3. -/
def LineState.code : LineState → Nat
  | .quiet => 0
  | .active => 1
  | .held => 2

/-- Table 11-7. -/
def Result.code : Result → Nat
  | .ok => 0
  | .busy => 1
  | .badCommand => 2
  | .badValue => 3
  | .badDest => 4
  | .notMember => 5
  | .noPeer => 6
  | .full => 7
  | .inFlight => 8
  | .unknown => 9
  | .empty => 10
  | .resetDone => 11

/-- Table 11-9, byte 1. -/
def Presence.code : Presence → Nat
  | .absent => 0
  | .present => 1
  | .self => 2

/-- Table 11-12. -/
def OutcomeCode.code : OutcomeCode → Nat
  | .delivered => 1
  | .partly => 2
  | .unconfirmed => 3
  | .notSent => 4
  | .cancelled => 5

/-- Table 11-13. -/
def Cause.code : Cause → Nat
  | .none => 0
  | .retriesExhausted => 1
  | .heldTooLong => 2
  | .peerUnreachable => 3
  | .noSession => 4
  | .peerRestarted => 5
  | .peerLost => 6
  | .peerLeft => 7
  | .stationLeft => 8
  | .transmitFault => 9
  | .clash => 10
  | .rosterEmpty => 11
  | .memberLost => 12
  | .host => 13

/-- Table 11-14. -/
def NoticeKind.code : NoticeKind → Nat
  | .joinDone => 1
  | .left => 2
  | .peerJoined => 3
  | .peerRestarted => 4
  | .peerLeft => 5
  | .peerLost => 6
  | .silenced => 7
  | .halted => 8
  | .lineHeld => 9
  | .lineReleased => 10

/-- The bytes the port shifts out for a reply, before the filler (R162, Table 11-5). -/
def Reply.bytes (r : Reply) : List Byte :=
  r.tag :: r.code :: byteOf r.result.code :: byteOf r.data.length :: r.data

/-- Byte `k` that a transaction in progress shifts out on SDO; filler is all ones, and SDO is not driven outside a taken
transaction (R160, R162). -/
def State.sdoByte (s : State) (k : Nat) : Option Byte :=
  match s.port with
  | .taking out => some (out.getD k 0xFF)
  | _ => none

/-- The level on SDO after `n` falling edges of SCK since CSN fell: the most significant bit of each byte first, and the first
bit from the fall of CSN on (R160). -/
def State.sdoBit (s : State) (n : Nat) : Option Level :=
  (s.sdoByte (n / 8)).map fun b => b.getMsbD (n % 8)

/-- The flags byte of STATUS (Table 11-8, byte 6). -/
def State.statusFlags (s : State) : Byte :=
  byteOf (s.tu.deferred.toNat + 2 * s.gu.lane.isSome.toNat)

/-- The STATUS record (R167, Table 11-8). -/
def State.statusData (s : State) : List Byte :=
  [byteOf s.mu.station.code, byteOf s.mu.number.val, byteOf s.mu.rate.val, byteOf s.lm.line.code,
   byteOf s.lm.runLength, byteOf s.lm.quietRun, s.statusFlags, byteOf s.tu.failures,
   byteOf (s.countSlots Slot.isFree), byteOf (s.countSlots Slot.isOutbound), byteOf s.delivered.length,
   byteOf (outcomeCount s.report), byteOf (noticeCount s.report), byteOf s.answers.length]

/-- The tx session bytes of a PEER record: state, window length, waiting count, retry count, hold count; 0 for an absent
session (R168, Table 11-9). -/
def sessionBytes : Option TxSession → List Byte
  | none => [0, 0, 0, 0, 0]
  | some t =>
    [byteOf (match t.state with | .opening => 1 | .opened => 2), byteOf t.window.length, byteOf t.waiting.length,
     byteOf t.retry, byteOf t.hold]

/-- The rx record bytes of a PEER record (Table 11-9). -/
def rxBytes : Option Seq → List Byte
  | none => [0, 0]
  | some e => [1, byteOf e.val]

/-- The last group sequence byte of a PEER record (Table 11-9). -/
def lastGroupByte : Option Seq → Byte
  | none => 0xFF
  | some q => byteOf q.val

/-- The PEER record of entry `p`; the own entry shows the configured groups, silence 0 and every optional part absent
(R168). -/
def State.peerData (s : State) (p : StationId) : List Byte :=
  let e := s.peer p
  if e.presence = .self then
    [byteOf p.val, byteOf e.presence.code, s.cfg.groups, 0] ++ sessionBytes none ++ rxBytes none ++ [lastGroupByte e.lastGroup]
  else
    [byteOf p.val, byteOf e.presence.code, e.groups, byteOf e.silence] ++ sessionBytes e.tx ++ rxBytes e.rx ++
      [lastGroupByte e.lastGroup]

/-- The origin byte of a FETCH reply (section 11.3). -/
def Origin.byte : Origin → Byte
  | .direct => 0x80
  | .group g => byteOf g.val

/-- The data of a FETCH reply (section 11.3). -/
def fetchData (source : StationId) (origin : Origin) (payload : List Byte) : List Byte :=
  byteOf source.val :: origin.byte :: byteOf payload.length :: payload

/-- The data of a REPORT reply for an outcome entry (Table 11-10). -/
def outcomeData (c : Parcel) (o : ParcelOutcome) : List Byte :=
  match o.sets with
  | none => 0 :: bytes16 c.ticket ++ [byteOf o.code.code, byteOf o.cause.code, 0]
  | some (answered, missing) =>
    0 :: bytes16 c.ticket ++ [byteOf o.code.code, byteOf o.cause.code, 1] ++ bytes32 answered ++ bytes32 missing

/-- The data of a REPORT reply for a notice entry (Table 11-10). -/
def noticeData (kind : NoticeKind) (peer : Option StationId) (missed : Bool) : List Byte :=
  [1, byteOf kind.code, (match peer with | some p => byteOf p.val | none => 0xFF), byteOf missed.toNat]

end Sys2Proof.Machine
end

