-- ==== Sys2Proof/Machine/HostPort.lean ====
section
/-!
DEFINITION. The Host Port (chapter 9): the rows that are the end of a transaction, the fall of CSN, and the two resets.
-/
namespace Sys2Proof.Machine

open Sys2Proof

/-! ## The transaction (R160 to R165, R177) -/

/-- The port takes the transaction that now ends. A transaction the port does not take executes nothing (R177). A row given
with CSN high stands for the whole transaction, fall and rise (log 8). -/
def State.takesTransaction (s : State) : Bool :=
  !s.inReset && decide (s.port ≠ .ignoring)

/-- CSN rises: SDO is no longer driven (R160). -/
def State.csnHigh (s : State) : State := { s with port := .idle }

/-- The reply replaces the reply buffer (R165). -/
def State.replyWith (s : State) (tag code : Byte) (result : Result) (data : List Byte) : State :=
  { s with reply := ⟨tag, code, result, data⟩ }

/-- CSN rises on a complete transaction: its command executes in the event of the rise, if the port takes it (R163). -/
def State.execute (s : State) (command : State → State) : State :=
  if s.takesTransaction then command s.csnHigh else s.csnHigh

/-- CSN_FALL: the port starts driving SDO with the reply buffer as it stands; a transaction that begins while RSTN is low is not
taken (R162, R177). CSN that is low already does not fall. -/
def execCsnFall (s : State) : Host.Outcome State Fault Refusal :=
  .next (match s.port with
    | .idle => { s with port := if s.inReset then .ignoring else .taking s.reply.bytes }
    | _ => s)

/-- INCOMPLETE_TRANSACTION: nothing executes and the reply buffer is kept (R163). Bytes that make a complete transaction are not
this row's event (log 7). -/
def execIncompleteTransaction (bytes : List Byte) (s : State) : Host.Outcome State Fault Refusal :=
  .next (if transactionComplete bytes then s else s.csnHigh)

/-- BAD_COMMAND: the reply is BAD-COMMAND, and nothing executes (R164). An argument length above 72 makes the transaction
incomplete (R161). A known code with an allowed length is not this row's event (log 7). -/
def execBadCommand (tag code : Byte) (args : List Byte) (s : State) : Host.Outcome State Fault Refusal :=
  .next (
    if Config.maxArguments < args.length then s.csnHigh
    else if argumentLengthOk code args.length then s
    else s.execute fun t => t.replyWith tag code .badCommand [])

/-! ## NOP, STATUS, PEER, CONFIGURE (R167 to R169) -/

/-- NOP (R167). -/
def execNop (tag : Byte) (s : State) : Host.Outcome State Fault Refusal :=
  .next (s.execute fun t => t.replyWith tag 0x00 .ok [])

/-- STATUS (R167). -/
def execStatus (tag : Byte) (s : State) : Host.Outcome State Fault Refusal :=
  .next (s.execute fun t => t.replyWith tag 0x01 .ok t.statusData)

/-- PEER (R168). -/
def execPeer (tag number : Byte) (s : State) : Host.Outcome State Fault Refusal :=
  .next (s.execute fun t =>
    match stationArg number with
    | some p => t.replyWith tag 0x02 .ok (t.peerData p)
    | none => t.replyWith tag 0x02 .badValue [])

/-- CONFIGURE (R169). -/
def execConfigure (tag rollInterval answerWait retryLimit window groups : Byte) (s : State) :
    Host.Outcome State Fault Refusal :=
  .next (s.execute fun t =>
    if t.mu.station = .detached then
      match configArgs rollInterval answerWait retryLimit window groups with
      | some c => ({ t with cfg := c }).replyWith tag 0x10 .ok []
      | none => t.replyWith tag 0x10 .badValue []
    else t.replyWith tag 0x10 .busy [])

/-! ## JOIN, LEAVE, RESUME (R63, R171) -/

/-- JOIN (R63, R64). -/
def execJoin (tag : Byte) (s : State) : Host.Outcome State Fault Refusal :=
  .next (s.execute fun t =>
    if t.mu.station = .detached then t.enterJoining.replyWith tag 0x11 .ok [] else t.replyWith tag 0x11 .busy [])

/-- LEAVE (R63, R78, R81). -/
def execLeave (tag : Byte) (s : State) : Host.Outcome State Fault Refusal :=
  .next (s.execute fun t =>
    match t.mu.station with
    | .member => t.beginLeave.replyWith tag 0x12 .ok []
    | .joining => t.leaveAtOnce.replyWith tag 0x12 .ok []
    | .silenced => t.leaveAtOnce.replyWith tag 0x12 .ok []
    | _ => t.replyWith tag 0x12 .busy [])

/-- RESUME (R63, R64). -/
def execResume (tag : Byte) (s : State) : Host.Outcome State Fault Refusal :=
  .next (s.execute fun t =>
    if t.mu.station = .silenced then t.enterJoining.replyWith tag 0x13 .ok [] else t.replyWith tag 0x13 .busy [])

/-! ## POST (R172) -/

/-- The destination names this station's own number (R172, check 3). -/
def State.isOwn (s : State) (d : Dest) : Bool := decide (d = .station s.mu.number)

/-- The destination is a station whose entry is not PRESENT (R172, check 4). -/
def State.noPeer (s : State) : Dest → Bool
  | .station p => !s.isPresent p
  | .group _ => false

/-- The filled slot is handed to its holder (R86). -/
def State.handOver (s : State) (k : SlotId) (dest : Dest) (urgent : Bool) : State :=
  match dest with
  | .station p => s.queueDirect p k urgent
  | .group _ => s.queueGroup k urgent

/-- Checks 3 to 5 of POST, and its grant (R172, R86). -/
def State.postTo (s : State) (tag : Byte) (d : Dest) (urgent : Bool) (payload : List Byte) : State :=
  if s.noPeer d then s.replyWith tag 0x20 .noPeer []
  else match s.outboundSlot with
    | none => s.replyWith tag 0x20 .full []
    | some k =>
      ((s.fillOutbound k d urgent payload).handOver k d urgent).replyWith tag 0x20 .ok (bytes16 s.ticket)

/-- POST with the checks in the order of R172. -/
def State.post (s : State) (tag dest priority : Byte) (payload : List Byte) : State :=
  if s.mu.station ≠ .member then s.replyWith tag 0x20 .notMember []
  else if Config.maxPayload < payload.length then s.replyWith tag 0x20 .badValue []
  else match priorityArg priority with
    | none => s.replyWith tag 0x20 .badValue []
    | some urgent =>
      match destArg dest with
      | none => s.replyWith tag 0x20 .badDest []
      | some d => if s.isOwn d then s.replyWith tag 0x20 .badDest [] else s.postTo tag d urgent payload

/-- POST (R172). More than 70 payload bytes make an argument length above 72, and so an incomplete transaction (R161). -/
def execPost (tag dest priority : Byte) (payload : List Byte) (s : State) : Host.Outcome State Fault Refusal :=
  .next (
    if Config.maxArguments < payload.length + 2 then s.csnHigh
    else s.execute fun t => t.post tag dest priority payload)

/-! ## CANCEL (R95, R96, R103, R173) -/

/-- The slot whose state `cond` accepts and whose parcel carries the ticket. -/
def State.findTicket (s : State) (cond : Slot → Option Parcel) (ticket : Ticket) : Option SlotId :=
  allSlots.find? fun k =>
    match cond (s.slot k) with
    | some c => decide (c.ticket = ticket)
    | none => false

/-- The parcel of a WAITING slot. -/
def Slot.waitingParcel : Slot → Option Parcel
  | .waiting c => some c
  | _ => none

/-- The parcel of an IN-FLIGHT slot. -/
def Slot.inFlightParcel : Slot → Option Parcel
  | .inFlight c => some c
  | _ => none

/-- A WAITING parcel is withdrawn: it leaves the waiting list that holds it and becomes CANCELLED with cause HOST (R95,
R103). -/
def State.withdraw (s : State) (k : SlotId) : State :=
  match (s.slot k).waitingParcel with
  | none => s
  | some c =>
    match c.dest with
    | .station p => (s.setOutcome k (directOutcome .cancelled .host)).dropWaiting p k
    | .group _ =>
      let s' := s.setOutcome k (groupOutcome .cancelled .host 0 0)
      { s' with gu := { s'.gu with waiting := s'.gu.waiting.filter fun j => decide (j ≠ k) } }

/-- CANCEL (R173). -/
def State.cancelTicket (s : State) (tag : Byte) (ticket : Ticket) : State :=
  match s.findTicket Slot.waitingParcel ticket with
  | some k => (s.withdraw k).replyWith tag 0x21 .ok []
  | none =>
    match s.findTicket Slot.inFlightParcel ticket with
    | some _ => s.replyWith tag 0x21 .inFlight []
    | none => s.replyWith tag 0x21 .unknown []

/-- CANCEL (R173). -/
def execCancel (tag : Byte) (ticket : Ticket) (s : State) : Host.Outcome State Fault Refusal :=
  .next (s.execute fun t => t.cancelTicket tag ticket)

/-! ## FETCH and REPORT (R93, R94, R174, R175, R187) -/

/-- FETCH on the delivered list (R93). -/
def State.fetchHead (s : State) (tag : Byte) : State :=
  match s.delivered with
  | [] => s.replyWith tag 0x30 .empty []
  | k :: rest =>
    match s.slot k with
    | .delivered source origin payload =>
      ({ s.withSlot k .free with delivered := rest }).replyWith tag 0x30 .ok (fetchData source origin payload)
    | _ => s.replyWith tag 0x30 .empty []

/-- FETCH (R174). -/
def execFetch (tag : Byte) (s : State) : Host.Outcome State Fault Refusal :=
  .next (s.execute fun t => t.fetchHead tag)

/-- REPORT on the report list (R94, R187). -/
def State.reportHead (s : State) (tag : Byte) : State :=
  match s.report with
  | [] => s.replyWith tag 0x31 .empty []
  | .notice kind peer missed :: rest =>
    ({ s with report := rest }).replyWith tag 0x31 .ok (noticeData kind peer missed)
  | .outcome k :: rest =>
    match s.slot k with
    | .done c o => ({ s.withSlot k .free with report := rest }).replyWith tag 0x31 .ok (outcomeData c o)
    | _ => s.replyWith tag 0x31 .empty []

/-- REPORT (R175). -/
def execReport (tag : Byte) (s : State) : Host.Outcome State Fault Refusal :=
  .next (s.execute fun t => t.reportHead tag)

/-! ## Resets (R17, R177, R178) -/

/-- RESTART: every block at its reset values, the straps sampled, the configuration block kept, RESET-DONE with the
transaction's own tag in the reply buffer (R178). -/
def State.restarted (s : State) (tag : Byte) (addr : StationId) (rate : Fin 4) : State :=
  .blocksReset s.cfg ⟨tag, 0x1F, .resetDone, []⟩ s.port false addr rate s.pending

/-- RESTART (R178). -/
def execRestart (tag : Byte) (addr : StationId) (rate : Fin 4) (s : State) : Host.Outcome State Fault Refusal :=
  .next (s.execute fun t => t.restarted tag addr rate)

/-- The port through a hardware reset: a transaction in progress is not taken any more (R177). -/
def Port.throughReset : Port → Port
  | .idle => .idle
  | _ => .ignoring

/-- HARDWARE_RESET: RSTN goes low and every block takes its reset values. The straps are sampled when RSTN rises, and until then
the station number and the rate code stand as they were (R17, R177; log 9). -/
def execHardwareReset (s : State) : Host.Outcome State Fault Refusal :=
  .next (.blocksReset .default .afterReset s.port.throughReset true s.mu.number s.mu.rate s.pending)

/-- HARDWARE_RESET_END: RSTN rises, the straps are sampled, and the part starts from its reset values (R17, R177). DESIGN CHOICE: given
while RSTN is high already, where the manual has no such rise, the row acts alike: the whole part is reset and the straps are sampled
(log 31). -/
def execHardwareResetEnd (addr : StationId) (rate : Fin 4) (s : State) : Host.Outcome State Fault Refusal :=
  .next (.blocksReset .default .afterReset s.port.throughReset false addr rate s.pending)

end Sys2Proof.Machine
end

