-- ==== Sys2Proof/Machine/Events.lean ====
section
/-!
DEFINITION. The rows that are the closing of a valid frame of another station, and the rows that are the expiry of a timer.
-/
namespace Sys2Proof.Machine

open Sys2Proof

/-! ## Frames that close (R34 to R38) -/

/-- CLASH: a valid frame with the own number, not sent by this station (R34, R77). -/
def execClash (m : Msg) (s : State) : Host.Outcome State Fault Refusal :=
  .next (s.frameCloses (m.withSrc s.mu.number))

/-- ROLL (R65, R71, R72, R73). -/
def execRoll (src : StationId) (seq : Seq) (groups : GroupSet) (flags : Byte) (s : State) :
    Host.Outcome State Fault Refusal :=
  .next (s.frameCloses (.roll src seq groups flags))

/-- OPEN (R127, R128). -/
def execOpenFrame (src dst : StationId) (seq : Seq) (s : State) : Host.Outcome State Fault Refusal :=
  .next (s.frameCloses (.openReq src dst seq))

/-- DATA (R130 to R134). -/
def execData (urgent : Bool) (src dst : StationId) (seq : Seq) (payload : List Byte) (s : State) :
    Host.Outcome State Fault Refusal :=
  .next (s.frameCloses (.data urgent src dst seq payload))

/-- GROUP (R156). -/
def execGroup (urgent : Bool) (src : StationId) (g : GroupId) (seq : Seq) (payload : List Byte) (s : State) :
    Host.Outcome State Fault Refusal :=
  .next (s.frameCloses (.group urgent src g seq payload))

/-- ANSWER_DATA (R112 to R117). -/
def execAnswerData (src dst : StationId) (code : AnswerCode) (number : Seq) (s : State) :
    Host.Outcome State Fault Refusal :=
  .next (s.frameCloses (.answer src dst .data code number))

/-- ANSWER_OPEN (R105, R106). -/
def execAnswerOpen (src dst : StationId) (code : AnswerCode) (number : Seq) (s : State) :
    Host.Outcome State Fault Refusal :=
  .next (s.frameCloses (.answer src dst .openReq code number))

/-- ANSWER_GROUP (R150). -/
def execAnswerGroup (src dst : StationId) (code : AnswerCode) (number : Seq) (s : State) :
    Host.Outcome State Fault Refusal :=
  .next (s.frameCloses (.answer src dst .group code number))

/-! ## Timers

A timer that is not running, or whose holder is gone, has no expiry, and nothing changes (R124). -/

/-- JOIN_TIMER_EXPIRY (R66). -/
def execJoinTimerExpiry (s : State) : Host.Outcome State Fault Refusal :=
  .next (if s.mu.station = .joining ∧ s.mu.joinTimer.isSome = true then s.joinDone else s)

/-- ROLL_TIMER_EXPIRY (R67, R68). -/
def execRollTimerExpiry (s : State) : Host.Outcome State Fault Refusal :=
  .next (if s.mu.station = .member ∧ s.mu.rollTimer.isSome = true then s.rollExpiry else s)

/-- LEAVE_TIMER_EXPIRY (R80). -/
def execLeaveTimerExpiry (s : State) : Host.Outcome State Fault Refusal :=
  .next (if s.mu.station = .leaving ∧ s.mu.leaveTimer.isSome = true then s.leaveExpiry else s)

/-- OPEN_ANSWER_TIMER_EXPIRY (R107). -/
def execOpenAnswerTimerExpiry (p : StationId) (s : State) : Host.Outcome State Fault Refusal :=
  .next (match s.tx p with
    | some t => if t.state = .opening ∧ t.answerTimer.isSome = true then s.openTimerExpiry p t else s
    | none => s)

/-- ANSWER_TIMER_EXPIRY (R118). -/
def execAnswerTimerExpiry (p : StationId) (s : State) : Host.Outcome State Fault Refusal :=
  .next (match s.tx p with
    | some t => if t.state = .opened ∧ t.answerTimer.isSome = true then s.dataTimerExpiry p t else s
    | none => s)

/-- HOLD_TIMER_EXPIRY (R116). -/
def execHoldTimerExpiry (p : StationId) (s : State) : Host.Outcome State Fault Refusal :=
  .next (match s.tx p with
    | some t => if t.holdTimer.isSome then s.withTx p (some t.holdEnded) else s
    | none => s)

/-- LANE_ANSWER_TIMER_EXPIRY (R153). -/
def execLaneAnswerTimerExpiry (s : State) : Host.Outcome State Fault Refusal :=
  .next (match s.gu.lane with
    | some l => if l.timer.isSome then s.laneRetry l else s
    | none => s)

end Sys2Proof.Machine
end

