-- ==== Sys2Proof/Machine/Dispatch.lean ====
section
/-!
DEFINITION. The meaning of every row of spec/opcode_table.json, one arm per constructor.
-/
namespace Sys2Proof.Machine

open Sys2Proof

def exec (i : Instr) (s : State) : Host.Outcome State Fault Refusal :=
  match i with
  | .hardwareReset => Sys2Proof.Machine.execHardwareReset s
  | .hardwareResetEnd addr rate => Sys2Proof.Machine.execHardwareResetEnd addr rate s
  | .incompleteTransaction bytes => Sys2Proof.Machine.execIncompleteTransaction bytes s
  | .badCommand tag code args => Sys2Proof.Machine.execBadCommand tag code args s
  | .nop tag => Sys2Proof.Machine.execNop tag s
  | .status tag => Sys2Proof.Machine.execStatus tag s
  | .peer tag number => Sys2Proof.Machine.execPeer tag number s
  | .configure tag a b c d e => Sys2Proof.Machine.execConfigure tag a b c d e s
  | .join tag => Sys2Proof.Machine.execJoin tag s
  | .leave tag => Sys2Proof.Machine.execLeave tag s
  | .resume tag => Sys2Proof.Machine.execResume tag s
  | .restart tag addr rate => Sys2Proof.Machine.execRestart tag addr rate s
  | .post tag dest priority payload => Sys2Proof.Machine.execPost tag dest priority payload s
  | .cancel tag ticket => Sys2Proof.Machine.execCancel tag ticket s
  | .fetch tag => Sys2Proof.Machine.execFetch tag s
  | .report tag => Sys2Proof.Machine.execReport tag s
  | .lineQuiet => Sys2Proof.Machine.execLineQuiet s
  | .startPoint => Sys2Proof.Machine.execStartPoint s
  | .lostContention => Sys2Proof.Machine.execLostContention s
  | .mismatch => Sys2Proof.Machine.execMismatch s
  | .breakoffEnd => Sys2Proof.Machine.execBreakoffEnd s
  | .sent => Sys2Proof.Machine.execSent s
  | .lineHeld => Sys2Proof.Machine.execLineHeld s
  | .lineReleased => Sys2Proof.Machine.execLineReleased s
  | .longQuiet => Sys2Proof.Machine.execLongQuiet s
  | .frameViolation level => Sys2Proof.Machine.execFrameViolation level s
  | .openingMark => Sys2Proof.Machine.execOpeningMark s
  | .frameClose => Sys2Proof.Machine.execFrameClose s
  | .clash m => Sys2Proof.Machine.execClash m s
  | .roll src seq groups flags => Sys2Proof.Machine.execRoll src seq groups flags s
  | .openFrame src dst seq => Sys2Proof.Machine.execOpenFrame src dst seq s
  | .data urgent src dst seq payload => Sys2Proof.Machine.execData urgent src dst seq payload s
  | .group urgent src g seq payload => Sys2Proof.Machine.execGroup urgent src g seq payload s
  | .answerData src dst code number => Sys2Proof.Machine.execAnswerData src dst code number s
  | .answerOpen src dst code number => Sys2Proof.Machine.execAnswerOpen src dst code number s
  | .answerGroup src dst code number => Sys2Proof.Machine.execAnswerGroup src dst code number s
  | .joinTimerExpiry => Sys2Proof.Machine.execJoinTimerExpiry s
  | .rollTimerExpiry => Sys2Proof.Machine.execRollTimerExpiry s
  | .leaveTimerExpiry => Sys2Proof.Machine.execLeaveTimerExpiry s
  | .openAnswerTimerExpiry p => Sys2Proof.Machine.execOpenAnswerTimerExpiry p s
  | .answerTimerExpiry p => Sys2Proof.Machine.execAnswerTimerExpiry p s
  | .holdTimerExpiry p => Sys2Proof.Machine.execHoldTimerExpiry p s
  | .laneAnswerTimerExpiry => Sys2Proof.Machine.execLaneAnswerTimerExpiry s
  | .lineSample level => Sys2Proof.Machine.execLineSample level s
  | .resynchronisation clocks => Sys2Proof.Machine.execResynchronisation clocks s
  | .csnFall => Sys2Proof.Machine.execCsnFall s

end Sys2Proof.Machine
end

