-- ==== Sys2Proof/Safety.lean ====
section
/-!
DEFINITION. What a safe run keeps: the invariants the manual states of the part's records, each over the whole state, and the
kinds of row that statements speak of.
-/
namespace Sys2Proof.Safety

open Sys2Proof Sys2Proof.Machine

/-! ## Rows -/

/-- The row is the end of a host transaction (R163). -/
def isTransactionEnd : Instr → Bool
  | .incompleteTransaction _ => true
  | .badCommand _ _ _ => true
  | .nop _ => true
  | .status _ => true
  | .peer _ _ => true
  | .configure _ _ _ _ _ _ => true
  | .join _ => true
  | .leave _ => true
  | .resume _ => true
  | .restart _ _ _ => true
  | .post _ _ _ _ => true
  | .cancel _ _ => true
  | .fetch _ => true
  | .report _ => true
  | _ => false

/-- The row is a sample or a boundary of the line, or an edge on it. -/
def isLineRow : Instr → Bool
  | .lineSample _ => true
  | .lineQuiet => true
  | .longQuiet => true
  | .lineHeld => true
  | .lineReleased => true
  | .frameViolation _ => true
  | .openingMark => true
  | .frameClose => true
  | .lostContention => true
  | .mismatch => true
  | .sent => true
  | .startPoint => true
  | .breakoffEnd => true
  | .resynchronisation _ => true
  | _ => false

/-- The row that is the closing of a frame of another station. -/
def rowOf : Msg → Instr
  | .data urgent src dst q payload => .data urgent src dst q payload
  | .group urgent src g q payload => .group urgent src g q payload
  | .answer src dst .data code n => .answerData src dst code n
  | .answer src dst .openReq code n => .answerOpen src dst code n
  | .answer src dst .group code n => .answerGroup src dst code n
  | .openReq src dst q => .openFrame src dst q
  | .roll src q groups flags => .roll src q groups flags

/-- The row is a hardware reset, its end, or RESTART. -/
def isResetRow : Instr → Bool
  | .hardwareReset => true
  | .hardwareResetEnd _ _ => true
  | .restart _ _ _ => true
  | _ => false

/-- RSTN is high and the port takes the transaction that ends (R163, R177). -/
abbrev takes (s : State) : Prop := s.inReset = false ∧ s.port ≠ .ignoring

/-- RSTN is high and the current bit's sample is still to come (R3). -/
abbrev bitOpen (s : State) : Prop := s.inReset = false ∧ s.lm.sampled = false

/-- A sample of level `b` changes no line state to or from HELD, is no 24th recessive one, and carries no run report (R11 to
R15). -/
abbrev plainSample (s : State) (b : Level) : Prop :=
  s.lm.entersHeld b = false ∧ s.lm.leavesHeld b = false ∧ s.lm.longQuietOn b = false ∧ s.lm.reportOn b = none

/-- A sample of level `b` changes no line state to or from HELD and is no 24th recessive one (R14, R15). -/
abbrev noLineEvent (s : State) (b : Level) : Prop :=
  s.lm.entersHeld b = false ∧ s.lm.leavesHeld b = false ∧ s.lm.longQuietOn b = false

/-- A sample of level `b` closes no frame: the Frame Receiver is in SEEK, or the sample carries no MARK (R28). -/
abbrev noClose (s : State) (b : Level) : Prop :=
  s.fr.state = .seek ∨ s.lm.reportOn b ≠ some .mark

/-- RSTN is high and the station is MEMBER, and `p` is another station's number (R35, R36). -/
abbrev hears (s : State) (p : StationId) : Prop :=
  s.inReset = false ∧ s.mu.station = .member ∧ p ≠ s.mu.number

/-! ## States that rules share -/

/-- After a command of a transaction the port takes: CSN high and this reply in the reply buffer (R160, R165). -/
def replied (s : State) (tag code : Byte) (result : Result) (data : List Byte) : State :=
  { s with port := .idle, reply := ⟨tag, code, result, data⟩ }

/-- At a closing mark: the Line Monitor at the mark and the Frame Receiver in SEEK (R10, R28). -/
def marked (s : State) : State := { s with lm := .atMark, fr := .reset }

/-- At a closing mark in MEMBER, after the liveness step for `p` and, for a frame of class 2 or 3, the deferral step (R36). -/
def heard (s : State) (p : StationId) (isData : Bool) : State :=
  { marked s with
    peers := if (s.peer p).presence = .present then s.peers.set p.val { s.peer p with silence := 0 } else s.peers
    tu := if isData then { s.tu with deferred := false } else s.tu }

/-- The Line Monitor's and the Frame Receiver's records after these samples, one after another (R10, R25 to R28). -/
def listen : LineMonitor × FrameReceiver → List Level → LineMonitor × FrameReceiver
  | x, [] => x
  | (lm, fr), b :: bs => listen (lm.afterSample b, (fr.sample b (lm.reportOn b)).1) bs

/-- The Transmit Unit after an attempt that has ended: WAIT, its buffer empty, its counts 0. -/
def waiting (t : TransmitUnit) : TransmitUnit :=
  { t with state := .wait, buffer := none, lineBits := 0, arbitrationBits := 0, breakoffBits := 0 }

/-- Two records of one parcel: only the sent-once flag may differ (R91). -/
def sameParcel (c d : Parcel) : Prop :=
  d.ticket = c.ticket ∧ d.dest = c.dest ∧ d.urgent = c.urgent ∧ d.payload = c.payload

/-- How a slot may change while it is not freed: a FREE slot may be filled, a posted parcel may move between WAITING and IN-FLIGHT
and to DONE, and a DONE or DELIVERED slot stays (Table 5-1, R91, R92). -/
def mayBecome (a b : Slot) : Prop :=
  a = b ∨ a = .free ∨
  ∃ c d, sameParcel c d ∧ (a = .waiting c ∨ a = .inFlight c) ∧
    (b = .waiting d ∨ b = .inFlight d ∨ ∃ o, b = .done d o)

/-- No parcel waits and none is in flight (R98). -/
def nothingOutstanding (s : State) : Prop :=
  ∀ k : SlotId, ∀ c : Parcel, s.slot k ≠ .waiting c ∧ s.slot k ≠ .inFlight c

/-- The ticket counter's value after this many steps from `t`: up by 1, and from 65535 to 1 (R87). -/
def ticketAfter (t : Ticket) : Nat → Ticket
  | 0 => t
  | n + 1 => if ticketAfter t n = 65535#16 then 1#16 else ticketAfter t n + 1

/-- In `t` the ticket counter holds the first value after that of `s` that no live parcel of `t` carries (R87). -/
def ticketAdvanced (s t : State) : Prop :=
  ∃ n, t.ticket = ticketAfter s.ticket (n + 1) ∧ t.ticketLive t.ticket = false ∧
    ∀ m, m < n → t.ticketLive (ticketAfter s.ticket (m + 1)) = true

/-- All work for the line is gone and the peer table is empty, as a teardown leaves them (R75). -/
def tornDown (s : State) : Prop :=
  (∀ p : StationId, (s.peer p).tx = none ∧ (s.peer p).rx = none ∧ (s.peer p).lastGroup = none ∧
    ((s.peer p).presence ≠ .self → s.peer p = PeerEntry.empty .absent)) ∧
  s.answers = [] ∧ s.gu.lane = none ∧ s.gu.waiting = [] ∧
  s.mu.rollTimer = none ∧ s.mu.joinTimer = none ∧ s.mu.joinedPending = false

/-- After an answer from `p` has taken the first `k` entries off the window of the session `x` to `p`, and left `y` in its place: each
entry taken DELIVERED, their outcome entries appended oldest first, nothing else changed but what every frame from `p` brings
(R112, R36). -/
def acknowledged (s : State) (p : StationId) (x : TxSession) (k : Nat) (y : TxSession) (t : State) : Prop :=
  t = { heard s p false with
        slots := t.slots
        report := s.report ++ (x.window.take k).map fun e => .outcome e.slot
        peers := s.peers.set p.val { s.peer p with silence := 0, tx := some y } } ∧
  (∀ e ∈ x.window.take k, ∃ c, s.slot e.slot = .inFlight c ∧ t.slot e.slot = .done c ⟨.delivered, .none, none⟩) ∧
  ∀ j : SlotId, (∀ e ∈ x.window.take k, e.slot ≠ j) → t.slot j = s.slot j

/-- After a member event for `p` at the Group Unit (R151, R152, R157): its last group sequence is none; a pending member is counted
lost; and with no member left pending the parcel ends PARTIAL with MEMBER-LOST and the load follows. -/
def memberGone (s : State) (p : StationId) (t : State) : Prop :=
  let u : State := { s with peers := s.peers.set p.val { s.peer p with lastGroup := none } }
  ((∀ l, s.gu.lane = some l → hasStation l.pending p = false) → t = u) ∧
  ∀ l, s.gu.lane = some l → hasStation l.pending p = true →
    let pending := dropStation l.pending p
    let lost := addStation l.lost p
    (pending ≠ 0 → t = { u with gu := { s.gu with lane := some { l with pending := pending, lost := lost } } }) ∧
    (pending = 0 → ∀ c, s.slot l.slot = .inFlight c →
      t = ({ u with slots := s.slots.set l.slot.val (.done c ⟨.partly, .memberLost, some (l.answered, lost)⟩)
                    report := s.report ++ [.outcome l.slot]
                    gu := { s.gu with lane := none } } : State).load)

/-- The slots whose parcels a station teardown ends, in the order of their outcome entries: per peer in ascending station number its
window and then its waiting parcels, then the lane's parcel, then the group waiting list (R123, R155, R181). -/
def teardownOrder (s : State) : List SlotId :=
  (allStations.flatMap fun p =>
    match s.tx p with
    | some x => x.window.map (·.slot) ++ x.waiting.map (·.slot)
    | none => []) ++ (s.gu.lane.map (·.slot)).toList ++ s.gu.waiting

/-- The outcomes that a station teardown with this cause gives the parcels of `s`, in the slots of `t` (R121, R123, R155): a window
entry or the lane's parcel UNCONFIRMED when it counts as sent at least once and NOT-SENT otherwise, every waiting parcel
NOT-SENT; a group parcel with its sets, a direct one without. -/
def teardownOutcomes (s : State) (cause : Cause) (t : State) : Prop :=
  (∀ (p : StationId) (x : TxSession), (s.peer p).tx = some x →
    (∀ e ∈ x.window, ∃ c, s.slot e.slot = .inFlight c ∧ t.slot e.slot =
      .done c ⟨if s.countsSent p cause e = true then .unconfirmed else .notSent, cause, none⟩) ∧
    ∀ w ∈ x.waiting, ∃ c, s.slot w.slot = .waiting c ∧ t.slot w.slot = .done c ⟨.notSent, cause, none⟩) ∧
  (∀ l, s.gu.lane = some l → ∃ c, s.slot l.slot = .inFlight c ∧ t.slot l.slot =
    .done c ⟨if l.sentOnce = true ∨ (cause ≠ .clash ∧ (s.tu.state = .contend ∨ s.tu.state = .send) ∧
        s.tu.buffer.map (·.owner) = some (.lane l.slot l.seq)) then .unconfirmed else .notSent,
      cause, some (l.answered, l.pending ||| l.lost)⟩) ∧
  (∀ k ∈ s.gu.waiting, ∃ c, s.slot k = .waiting c ∧ t.slot k = .done c ⟨.notSent, cause, some (0, 0)⟩) ∧
  ∀ k : SlotId, k ∉ teardownOrder s → t.slot k = s.slot k

/-! ## Invariants -/

/-- The Line Monitor record is consistent: the ranges of Table 1-3, the quiet-run length, and the line state as R12 ties it to
the run. -/
def lineConsistent (s : State) : Prop :=
  s.lm.runLength ≤ 32 ∧
  (s.lm.polarity = none → s.lm.runLength = 0) ∧
  s.lm.quietRun = (if s.lm.polarity = some recessive then s.lm.runLength else 0) ∧
  (s.lm.line = .quiet ↔ 10 ≤ s.lm.quietRun) ∧
  (s.lm.line = .held ↔ s.lm.polarity = some dominant ∧ s.lm.runLength = 32)

/-- The ranges of Table 3-1. -/
def transmitRanges (s : State) : Prop :=
  s.tu.failures ≤ 8 ∧ s.tu.arbitrationBits ≤ 7 ∧ s.tu.breakoffBits ≤ 12 ∧ (s.tu.state = .wait → s.tu.buffer = none)

/-- An attempt is in progress only in MEMBER and LEAVING (R40). -/
def attemptsAllowed (s : State) : Prop :=
  s.tu.state ≠ .wait → s.mu.station = .member ∨ s.mu.station = .leaving

/-- The outbound cap (R86). -/
def outboundCapped (s : State) : Prop := s.countSlots Slot.isOutbound ≤ 32

/-- The delivered list holds each DELIVERED slot once and no other (R90). -/
def deliveredMatches (s : State) : Prop :=
  ∀ k : SlotId, s.delivered.count k = if (s.slot k).isDelivered then 1 else 0

/-- The report list holds exactly one outcome entry for each DONE slot and at most 16 notice entries (R180). -/
def reportMatches (s : State) : Prop :=
  noticeCount s.report ≤ 16 ∧
  ∀ k : SlotId, s.report.count (.outcome k) = if (s.slot k).isDone then 1 else 0

/-- The ticket counter is a ticket, and no live parcel carries it (R87). -/
def ticketFresh (s : State) : Prop := s.ticket ≠ 0#16 ∧ s.ticketLive s.ticket = false

/-- Only the own entry is SELF, and an ABSENT entry has no groups and silence 0 (R62). -/
def peersConsistent (s : State) : Prop :=
  ∀ p : StationId, ((s.peer p).presence = .self ↔ p = s.mu.number) ∧
    ((s.peer p).presence = .absent → (s.peer p).groups = 0 ∧ (s.peer p).silence = 0) ∧ (s.peer p).silence ≤ 2

/-- Outside MEMBER the part holds no work for the line: no session, no rx record, no answer, no group parcel (R74, R75, R99,
R141). In MEMBER only PRESENT entries hold a session or an rx record (R74). -/
def workOnlyInMember (s : State) : Prop :=
  (∀ p : StationId, ((s.peer p).tx ≠ none ∨ (s.peer p).rx ≠ none) →
    s.mu.station = .member ∧ (s.peer p).presence = .present) ∧
  (s.mu.station ≠ .member → s.answers = [] ∧ s.gu.lane = none ∧ s.gu.waiting = [])

/-- The answer queue holds at most 8 entries, at most one that waits under each key, and at most one that is on the line, which an
attempt in progress then sends (R136). -/
def answersBounded (s : State) : Prop :=
  s.answers.length ≤ 8 ∧
  (∀ (d : StationId) (x : Subject), s.answers.countP (·.waitsFor d x) ≤ 1) ∧
  s.answers.countP (·.onLine) ≤ 1 ∧
  (s.answers.any (·.onLine) = true → s.tu.state ≠ .wait ∧ s.tu.buffer.map (·.owner) = some .answer)

/-- The lane's pending, answered and lost sets are disjoint and together equal its roster (R145), and its pending set
is not empty, since an empty one completes it (R151). In
MEMBER an IDLE lane leaves no parcel waiting (R146). -/
def laneConsistent (s : State) : Prop :=
  (∀ l : Lane, s.gu.lane = some l →
    l.pending &&& l.answered = 0 ∧ l.pending &&& l.lost = 0 ∧ l.answered &&& l.lost = 0 ∧
    l.pending ||| l.answered ||| l.lost = l.roster ∧ l.pending ≠ 0) ∧
  (s.mu.station = .member → s.gu.lane = none → s.gu.waiting = [])

/-- Sequences that run on by one from `o`, modulo 8 (R100). -/
def runsFrom (o : Seq) : List WindowEntry → Prop
  | [] => True
  | e :: rest => e.seq = o ∧ runsFrom (o + 1) rest

/-- The bounds of a tx session: the window within the configured size with consecutive sequences, the next sequence after them,
an OPENING session with an empty window and a parcel waiting, the retry and hold counts within their limits (R99, R100, R108). -/
def sessionsBounded (s : State) : Prop :=
  ∀ (p : StationId) (t : TxSession), s.tx p = some t →
    t.window.length ≤ s.cfg.window ∧ runsFrom t.oldest t.window ∧
    t.nextSeq = t.oldest + Fin.ofNat 8 t.window.length ∧
    (t.state = .opening → t.window = [] ∧ t.waiting ≠ []) ∧
    t.retry ≤ s.cfg.retryLimit ∧ t.hold ≤ 15

/-- The slots on the waiting lists: those of the tx sessions and that of the Group Unit (Table 5-1). -/
def waitingRefs (s : State) : List SlotId :=
  (allStations.flatMap fun p =>
    match s.tx p with
    | some t => t.waiting.map (·.slot)
    | none => []) ++ s.gu.waiting

/-- The slots in the windows and in the group lane (Table 5-1). -/
def flightRefs (s : State) : List SlotId :=
  (allStations.flatMap fun p =>
    match s.tx p with
    | some t => t.window.map (·.slot)
    | none => []) ++ (s.gu.lane.map (·.slot)).toList

/-- The slot is WAITING. -/
def isWaiting : Slot → Bool
  | .waiting _ => true
  | _ => false

/-- The slot is IN-FLIGHT. -/
def isInFlight : Slot → Bool
  | .inFlight _ => true
  | _ => false

/-- The destination of an outbound slot. -/
def destOf (v : Slot) : Option Dest := v.parcel.map (·.dest)

/-- Every posted parcel without an outcome is held in one place: a WAITING slot stands once on the waiting lists and an IN-FLIGHT
slot once in the windows and the lane, each with the holder its destination names, and no other slot stands there (R83, Table
5-1). A session in OPENING has an empty window (R100). -/
def parcelsHeldOnce (s : State) : Prop :=
  (∀ k : SlotId, (waitingRefs s).count k = if isWaiting (s.slot k) then 1 else 0) ∧
  (∀ k : SlotId, (flightRefs s).count k = if isInFlight (s.slot k) then 1 else 0) ∧
  (∀ (p : StationId) (t : TxSession), s.tx p = some t →
    (∀ w ∈ t.waiting, destOf (s.slot w.slot) = some (.station p)) ∧
    (∀ e ∈ t.window, destOf (s.slot e.slot) = some (.station p)) ∧
    (t.state = .opening → t.window = [])) ∧
  (∀ k ∈ s.gu.waiting, ∃ g : GroupId, destOf (s.slot k) = some (.group g)) ∧
  (∀ l : Lane, s.gu.lane = some l → ∃ g : GroupId, destOf (s.slot l.slot) = some (.group g))

/-- The values of the configuration block lie in their ranges (R169, Table 9-6). -/
def configInRange (s : State) : Prop :=
  2 ≤ s.cfg.rollInterval ∧ s.cfg.rollInterval ≤ 250 ∧ 2 ≤ s.cfg.answerWait ∧ s.cfg.answerWait ≤ 250 ∧
  1 ≤ s.cfg.retryLimit ∧ s.cfg.retryLimit ≤ 15 ∧ 1 ≤ s.cfg.window ∧ s.cfg.window ≤ 4

end Sys2Proof.Safety
end

