-- ==== Sys2Proof/Certificates/Slice0/Obligations.lean ====
section
/-!
DEFINITION. The statements about the 8532, each a rule of the manual over every state. A statement that rests on a choice of the
model names its log entry.
-/
open Sys2Proof Sys2Proof.Machine Sys2Proof.Safety

/-! ## Steps and resets -/

/-- A step takes the command at the front of the queue; on an empty queue the part idles, which is the model's choice (log 2). -/
def Obligations.StepRunsFrontCommand : Prop :=
  (∀ (s : State) (c : Instr) (rest : List Instr), s.pending = c :: rest → step s = exec c { s with pending := rest }) ∧
  ∀ s : State, s.pending = [] → step s = .next s

/-- What reset leaves in every block (Tables 1-3, 2-3, 3-1, 4-1, 8-1, 9-6 and the reset rules of chapters 5, 6, 7, 9 and 10).
The own number and the rate are the straps' (log 1). -/
def Obligations.ResetState : Prop :=
  State.reset.lm = { line := .active, polarity := none, runLength := 0, firstRun := true, quietRun := 0, sampled := false } ∧
  State.reset.fr = { state := .seek, holdBack := [], runValue := dominant, runCount := 1, stuffDue := false, content := [],
                     crc := 0xFFFF } ∧
  State.reset.tu = { state := .wait, buffer := none, lineBits := 0, arbitrationBits := 0, breakoffBits := 0, pointer := 0,
                     deferred := false, failures := 0, lout := recessive } ∧
  State.reset.mu = { station := .detached, number := State.reset.mu.number, rate := State.reset.mu.rate, joinTimer := none,
                     rollTimer := none, leaveTimer := none, leaveExpired := false, rollDue := false, joinedPending := false,
                     rollOnLine := .off } ∧
  (∀ p : StationId, State.reset.peer p =
    { presence := if p = State.reset.mu.number then .self else .absent, groups := 0, silence := 0, lastGroup := none,
      tx := none, rx := none }) ∧
  (∀ k : SlotId, State.reset.slot k = .free) ∧
  State.reset.delivered = [] ∧ State.reset.ticket = 1 ∧ State.reset.answers = [] ∧
  State.reset.gu = { waiting := [], lane := none, counter := 0 } ∧
  State.reset.cfg = { rollInterval := 10, answerWait := 20, retryLimit := 5, window := 4, groups := 0 } ∧
  State.reset.reply = { tag := 0, code := 0, result := .resetDone, data := [] } ∧
  State.reset.report = [] ∧ State.reset.inReset = false ∧ State.reset.port = .idle

/-- A hardware reset and its end: every block at its reset values, LOUT and ATN released, whatever went before; the straps are taken
when RSTN rises. While RSTN is low the number and the rate stand as they were, which is the model's choice (log 9), and every record
already stands at its reset value (log 27). So is that a HARDWARE_RESET_END given while RSTN is high acts alike (log 31).

RESTART resets every block but the configuration block, in any station state, and answers RESET-DONE with its own tag. -/
def Obligations.Resets : Prop :=
  (∀ (s : State) (addr : StationId) (rate : Fin 4),
      (∃ t, exec .hardwareReset s = .next t ∧ t.atn = false ∧ t.tu.lout = recessive ∧
        t = { State.reset with
              pending := s.pending, inReset := true, port := if s.port = .idle then .idle else .ignoring,
              mu := { State.reset.mu with number := s.mu.number, rate := s.mu.rate },
              peers := (Vector.replicate 32 (PeerEntry.empty .absent)).set s.mu.number.val (PeerEntry.empty .self) }) ∧
      (∃ t, exec (.hardwareResetEnd addr rate) s = .next t ∧ t.atn = false ∧ t.tu.lout = recessive ∧
        t = { State.reset with
              pending := s.pending, port := if s.port = .idle then .idle else .ignoring,
              mu := { State.reset.mu with number := addr, rate := rate },
              peers := (Vector.replicate 32 (PeerEntry.empty .absent)).set addr.val (PeerEntry.empty .self) })) ∧
  (∀ (s : State) (tag : Byte) (addr : StationId) (rate : Fin 4), takes s →
      ∃ t, exec (.restart tag addr rate) s = .next t ∧ t.atn = false ∧ t.tu.lout = recessive ∧
        t = { State.reset with
              pending := s.pending, cfg := s.cfg, reply := ⟨tag, 0x1F, .resetDone, []⟩,
              mu := { State.reset.mu with number := addr, rate := rate },
              peers := (Vector.replicate 32 (PeerEntry.empty .absent)).set addr.val (PeerEntry.empty .self) })

/-- While RSTN is low no sample, boundary or frame acts.

A transaction that ends at a port that does not take it executes nothing: CSN goes high and nothing else changes. -/
def Obligations.NothingActs : Prop :=
  (∀ (s : State) (c : Instr), s.inReset = true →
      (isLineRow c = true ∨ (∃ m, c = .clash m) ∨ ∃ m, c = rowOf m) → exec c s = .next s) ∧
  (∀ (s : State) (c : Instr), isTransactionEnd c = true → c.wellFormed = true → ¬ takes s →
      exec c s = .next { s with port := .idle })

/-! ## The host port -/

/-- CSN falls: SDO shows the reply buffer and then filler, unless RSTN is low. The bits of each byte follow each other on SDO most
significant bit first, the first from the fall of CSN on (R160). The results have the codes of Table 11-7.

An incomplete transaction changes nothing but CSN, so the next fall of CSN shows the same reply. SDI is read most significant
bit first, and the bits of a byte that is incomplete when CSN rises are discarded (R160). -/
def Obligations.TransactionBegins : Prop :=
  ((∀ s : State, s.port = .idle → s.inReset = false →
      ∃ t, exec .csnFall s = .next t ∧
        t = { s with port := .taking (s.reply.tag :: s.reply.code :: byteOf s.reply.result.code ::
                byteOf s.reply.data.length :: s.reply.data) } ∧
        (∀ k, k < 4 + s.reply.data.length → t.sdoByte k =
          (s.reply.tag :: s.reply.code :: byteOf s.reply.result.code :: byteOf s.reply.data.length :: s.reply.data)[k]?) ∧
        ∀ k, 4 + s.reply.data.length ≤ k → t.sdoByte k = some 0xFF) ∧
    (∀ s : State, s.port = .idle → s.inReset = true →
      ∃ t, exec .csnFall s = .next t ∧ t = { s with port := .ignoring } ∧ ∀ k, t.sdoByte k = none) ∧
    (∀ (s : State) (k i : Nat), i < 8 → s.sdoBit (8 * k + i) = (s.sdoByte k).map fun b => b.toNat.testBit (7 - i)) ∧
    [Result.ok, .busy, .badCommand, .badValue, .badDest, .notMember, .noPeer, .full, .inFlight, .unknown, .empty, .resetDone].map
      Result.code = [0, 1, 2, 3, 4, 5, 6, 7, 8, 9, 10, 11]) ∧
  ((∀ (s : State) (bytes : List Byte),
      (bytes.length < 3 ∨ (∃ tag code n rest, bytes = tag :: code :: n :: rest ∧
        (72 < n.toNat ∨ rest.length < n.toNat))) →
      exec (.incompleteTransaction bytes) s = .next { s with port := .idle }) ∧
    (∀ (addr : StationId) (rate : Fin 4) (bytes : List Byte) (cut : List Level), cut.length < 8 →
      decodeSdi addr rate ((bytes.flatMap fun b => [7, 6, 5, 4, 3, 2, 1, 0].map b.toNat.testBit) ++ cut) =
        decodeTransaction addr rate bytes) ∧
    ∀ (s : State) (addr : StationId) (rate : Fin 4) (bits : List Level), bits.length < 24 →
      exec (decodeSdi addr rate bits) s = .next { s with port := .idle })

/-- A complete transaction whose code or argument length Table 11-6 does not give is answered BAD-COMMAND, and the port reads
its bytes as that row. -/
def Obligations.BadCommand : Prop :=
  ∀ (s : State) (tag code : Byte) (args : List Byte), takes s → args.length ≤ 72 →
    (code ≠ 0x00 ∨ args.length ≠ 0) → (code ≠ 0x01 ∨ args.length ≠ 0) → (code ≠ 0x02 ∨ args.length ≠ 1) →
    (code ≠ 0x10 ∨ args.length ≠ 5) → (code ≠ 0x11 ∨ args.length ≠ 0) → (code ≠ 0x12 ∨ args.length ≠ 0) →
    (code ≠ 0x13 ∨ args.length ≠ 0) → (code ≠ 0x1F ∨ args.length ≠ 0) → (code ≠ 0x20 ∨ args.length < 2) →
    (code ≠ 0x21 ∨ args.length ≠ 2) → (code ≠ 0x30 ∨ args.length ≠ 0) → (code ≠ 0x31 ∨ args.length ≠ 0) →
    exec (.badCommand tag code args) s = .next (replied s tag code .badCommand []) ∧
    ∀ (addr : StationId) (rate : Fin 4) (filler : List Byte),
      decodeTransaction addr rate (transactionBytes tag code args ++ filler) = .badCommand tag code args

/-- NOP and STATUS change the reply buffer only; STATUS returns the record of Table 11-8, with the station states and the line
states numbered by Tables 11-11 and 11-8.

The counts of STATUS agree: the slots sum to 40, the delivered count is the list's length, and the outcome entries are as
many as the DONE slots. -/
def Obligations.NopAndStatus : Prop :=
  ((∀ (s : State) (tag : Byte), takes s →
      exec (.nop tag) s = .next (replied s tag 0x00 .ok []) ∧
      exec (.status tag) s = .next (replied s tag 0x01 .ok
        [byteOf s.mu.station.code, byteOf s.mu.number.val, byteOf s.mu.rate.val, byteOf s.lm.line.code,
         byteOf s.lm.runLength, byteOf s.lm.quietRun,
         byteOf ((if s.tu.deferred then 1 else 0) + (if s.gu.lane = none then 0 else 2)), byteOf s.tu.failures,
         byteOf (s.countSlots Slot.isFree), byteOf (s.countSlots Slot.isOutbound), byteOf s.delivered.length,
         byteOf (outcomeCount s.report), byteOf (noticeCount s.report), byteOf s.answers.length])) ∧
    [StationState.detached, .joining, .member, .leaving, .silenced, .halted].map StationState.code = [0, 1, 2, 3, 4, 5] ∧
    [LineState.quiet, .active, .held].map LineState.code = [0, 1, 2]) ∧
  (∀ s : State,
      s.countSlots Slot.isFree + s.countSlots Slot.isOutbound + s.countSlots Slot.isDelivered = 40 ∧
      (deliveredMatches s → s.delivered.length = s.countSlots Slot.isDelivered) ∧
      (reportMatches s → outcomeCount s.report = s.countSlots Slot.isDone))

/-- PEER (Tables 9-5 and 11-9). -/
def Obligations.Peer : Prop :=
  ∀ (s : State) (tag number : Byte), takes s →
    (32 ≤ number.toNat → exec (.peer tag number) s = .next (replied s tag 0x02 .badValue [])) ∧
    ∀ p : StationId, number.toNat = p.val →
      (p = s.mu.number → (s.peer p).presence = .self →
        exec (.peer tag number) s = .next (replied s tag 0x02 .ok
          [number, 2, s.cfg.groups, 0, 0, 0, 0, 0, 0, 0, 0,
           match (s.peer p).lastGroup with | some q => byteOf q.val | none => 0xFF])) ∧
      (p ≠ s.mu.number → (s.peer p).presence ≠ .self →
        exec (.peer tag number) s = .next (replied s tag 0x02 .ok
          ([number, if (s.peer p).presence = .present then 1 else 0, (s.peer p).groups, byteOf (s.peer p).silence] ++
           (match (s.peer p).tx with
            | none => [0, 0, 0, 0, 0]
            | some t => [if t.state = .opening then 1 else 2, byteOf t.window.length, byteOf t.waiting.length, byteOf t.retry,
                         byteOf t.hold]) ++
           (match (s.peer p).rx with
            | none => [0, 0]
            | some e => [1, byteOf e.val]) ++
           [match (s.peer p).lastGroup with | some q => byteOf q.val | none => 0xFF])))

/-- CONFIGURE: BUSY outside DETACHED, BAD-VALUE with no field changed when an argument is out of range, and otherwise all five
fields. -/
def Obligations.Configure : Prop :=
  ∀ (s : State) (tag a b c d e : Byte), takes s →
    (s.mu.station ≠ .detached → exec (.configure tag a b c d e) s = .next (replied s tag 0x10 .busy [])) ∧
    (s.mu.station = .detached →
      (a.toNat < 2 ∨ 250 < a.toNat ∨ b.toNat < 2 ∨ 250 < b.toNat ∨ c.toNat < 1 ∨ 15 < c.toNat ∨ d.toNat < 1 ∨ 4 < d.toNat →
        exec (.configure tag a b c d e) s = .next (replied s tag 0x10 .badValue [])) ∧
      (2 ≤ a.toNat ∧ a.toNat ≤ 250 ∧ 2 ≤ b.toNat ∧ b.toNat ≤ 250 ∧ 1 ≤ c.toNat ∧ c.toNat ≤ 15 ∧ 1 ≤ d.toNat ∧ d.toNat ≤ 4 →
        exec (.configure tag a b c d e) s = .next
          { replied s tag 0x10 .ok [] with
            cfg := { rollInterval := a.toNat, answerWait := b.toNat, retryLimit := c.toNat, window := d.toNat, groups := e } }))

/-- JOIN in DETACHED and RESUME in SILENCED bring the station into JOINING with its timers and flags set; an attempt in progress
ends with LOUT released and its counts at 0, which is the model's choice
(log 28).

JOIN, LEAVE and RESUME are refused BUSY in every other station state (Table 4-3). -/
def Obligations.JoinAndResume : Prop :=
  (∀ (s : State) (tag : Byte), takes s →
      let joining (code : Byte) : State :=
        { replied s tag code .ok [] with
          mu := { s.mu with
                  station := .joining, joinTimer := some (2 * (10 * s.cfg.rollInterval)), rollTimer := none, leaveTimer := none,
                  leaveExpired := false, rollDue := false, joinedPending := false, rollOnLine := .off }
          tu := { (if s.tu.state = .wait then s.tu else { waiting s.tu with lout := recessive }) with
                  failures := 0, deferred := false } }
      (s.mu.station = .detached → exec (.join tag) s = .next (joining 0x11)) ∧
      (s.mu.station = .silenced → exec (.resume tag) s = .next (joining 0x13))) ∧
  (∀ (s : State) (tag : Byte), takes s →
      (s.mu.station ≠ .detached → exec (.join tag) s = .next (replied s tag 0x11 .busy [])) ∧
      (s.mu.station ≠ .silenced → exec (.resume tag) s = .next (replied s tag 0x13 .busy [])) ∧
      (s.mu.station = .detached ∨ s.mu.station = .leaving ∨ s.mu.station = .halted →
        exec (.leave tag) s = .next (replied s tag 0x12 .busy [])))

/-- LEAVE in JOINING and SILENCED: DETACHED at once, the join timer stopped, every other entry's presence part cleared, LEFT
raised, and nothing else changed. That SILENCED clears the presence parts too is the model's reading (log 25), as are the counts of an ended
attempt (log 28).

LEAVE in MEMBER: LEAVING, everything torn down with cause STATION-LEFT, the PART roll due, the leave timer at one roll
interval; an attempt in progress goes on, and a roll on the line stays recorded. No parcel is left outstanding: each has the
outcome of R121 or R155, and the outcome entries stand in the order of R181. -/
def Obligations.Leave : Prop :=
  (∀ (s : State) (tag : Byte), takes s → (s.mu.station = .joining ∨ s.mu.station = .silenced) →
      ∃ t, exec (.leave tag) s = .next t ∧
        t = { replied s tag 0x12 .ok [] with
              mu := { s.mu with station := .detached, joinTimer := none }
              tu := if s.tu.state = .wait then s.tu else { waiting s.tu with lout := recessive }
              peers := t.peers
              report := reportWithNotice s.report .left none } ∧
        ∀ p : StationId, t.peer p = if (s.peer p).presence = .self then s.peer p
          else { s.peer p with presence := .absent, groups := 0, silence := 0 }) ∧
  (∀ (s : State) (tag : Byte), takes s → s.mu.station = .member → parcelsHeldOnce s →
      ∃ t, exec (.leave tag) s = .next t ∧
        t.mu.station = .leaving ∧ t.mu.rollDue = true ∧ t.mu.leaveTimer = some (10 * s.cfg.rollInterval) ∧
        t.mu.leaveExpired = false ∧ t.mu.rollOnLine = s.mu.rollOnLine ∧ tornDown t ∧ nothingOutstanding t ∧
        t.tu = s.tu ∧ t.lm = s.lm ∧ t.fr = s.fr ∧ t.cfg = s.cfg ∧ t.ticket = s.ticket ∧ t.delivered = s.delivered ∧
        t.gu.counter = s.gu.counter ∧ t.pending = s.pending ∧ t.inReset = s.inReset ∧
        t.mu.number = s.mu.number ∧ t.mu.rate = s.mu.rate ∧ t.port = .idle ∧ t.reply = ⟨tag, 0x12, .ok, []⟩ ∧
        (∀ k : SlotId, t.slot k ≠ s.slot k → ∃ c o, (s.slot k = .waiting c ∨ s.slot k = .inFlight c) ∧ t.slot k = .done c o ∧
          o.cause = .stationLeft) ∧
        teardownOutcomes s .stationLeft t ∧ t.report = s.report ++ (teardownOrder s).map .outcome)

/-- POST's refusals in the order of R172; each changes the reply buffer only. -/
def Obligations.PostRefused : Prop :=
  ∀ (s : State) (tag dest priority : Byte) (payload : List Byte), takes s → payload.length ≤ 70 →
    let refused (r : Result) : Host.Outcome State Fault Refusal := .next (replied s tag 0x20 r [])
    let badValue : Prop := 64 < payload.length ∨ (priority ≠ 2 ∧ priority ≠ 3)
    let badDest : Prop := 40 ≤ dest.toNat ∨ dest.toNat = s.mu.number.val
    let noPeer : Prop := ∃ p : StationId, dest.toNat = p.val ∧ (s.peer p).presence ≠ .present
    let full : Prop := 32 ≤ s.countSlots Slot.isOutbound ∨ ∀ k : SlotId, s.slot k ≠ .free
    (s.mu.station ≠ .member → exec (.post tag dest priority payload) s = refused .notMember) ∧
    (s.mu.station = .member → badValue → exec (.post tag dest priority payload) s = refused .badValue) ∧
    (s.mu.station = .member → ¬ badValue → badDest → exec (.post tag dest priority payload) s = refused .badDest) ∧
    (s.mu.station = .member → ¬ badValue → ¬ badDest → noPeer →
      exec (.post tag dest priority payload) s = refused .noPeer) ∧
    (s.mu.station = .member → ¬ badValue → ¬ badDest → ¬ noPeer → full →
      exec (.post tag dest priority payload) s = refused .full)

/-- A granted POST to a PRESENT station: the lowest FREE slot takes the parcel with the counter's ticket, and it goes to the
session's waiting list by R102, or to a new session in OPENING with OPEN-due set. The counter takes the first value after the ticket that no live parcel carries, 1 following 65535 (R87). -/
def Obligations.PostToStation : Prop :=
  ∀ (s : State) (tag dest priority : Byte) (payload : List Byte) (p : StationId) (k : SlotId),
    takes s → s.mu.station = .member → payload.length ≤ 64 → (priority = 2 ∨ priority = 3) → dest.toNat = p.val →
    p ≠ s.mu.number → (s.peer p).presence = .present → s.countSlots Slot.isOutbound < 32 → s.slot k = .free →
    (∀ j, j < k → s.slot j ≠ .free) →
    ∃ t, exec (.post tag dest priority payload) s = .next t ∧
      t = { replied s tag 0x20 .ok [s.ticket.extractLsb' 8 8, s.ticket.extractLsb' 0 8] with
            slots := s.slots.set k.val (.waiting ⟨s.ticket, .station p, decide (priority = 2), payload, false⟩)
            ticket := t.ticket
            peers := s.peers.set p.val { s.peer p with tx := (t.peer p).tx } } ∧
      ticketFresh t ∧ ticketAdvanced s t ∧
      ((s.peer p).tx = none →
        (t.peer p).tx = some
          { state := .opening, waiting := [⟨k, false⟩], window := [], nextSeq := 0, resend := none, retry := 0, hold := 0,
            held := false, holdTimer := none, answerTimer := none, openDue := true, refusalPause := false,
            openOnLine := false }) ∧
      ∀ x, (s.peer p).tx = some x →
        (priority = 3 → (t.peer p).tx = some { x with waiting := x.waiting ++ [⟨k, false⟩] }) ∧
        (priority = 2 → ∀ front back, x.waiting = front ++ back →
          (∀ w ∈ front, w.returned = true ∨ t.urgentSlot w.slot = true) →
          (back = [] ∨ ∃ w rest, back = w :: rest ∧ w.returned = false ∧ t.urgentSlot w.slot = false) →
          (t.peer p).tx = some { x with waiting := front ++ ⟨k, false⟩ :: back })

/-- A granted POST to a group with the lane IDLE and nothing waiting: with an empty roster the parcel ends NOT-SENT with
ROSTER-EMPTY, and otherwise it enters the lane with the counter's group sequence. With the lane BUSY it waits. The counter takes the first value after the ticket that no live parcel carries, 1 following
65535 (R87). -/
def Obligations.PostToGroup : Prop :=
  ∀ (s : State) (tag dest priority : Byte) (payload : List Byte) (g : GroupId) (k : SlotId),
    takes s → s.mu.station = .member → payload.length ≤ 64 → (priority = 2 ∨ priority = 3) → dest.toNat = 32 + g.val →
    s.countSlots Slot.isOutbound < 32 → s.slot k = .free → (∀ j, j < k → s.slot j ≠ .free) →
    let parcel : Parcel := ⟨s.ticket, .group g, decide (priority = 2), payload, false⟩
    let members : List StationId := allStations.filter fun p => decide ((s.peer p).presence = .present) && hasGroup (s.peer p).groups g
    ∃ t, exec (.post tag dest priority payload) s = .next t ∧
      t = { replied s tag 0x20 .ok [s.ticket.extractLsb' 8 8, s.ticket.extractLsb' 0 8] with
            slots := t.slots, ticket := t.ticket, gu := t.gu, report := t.report } ∧
      ticketFresh t ∧ ticketAdvanced s t ∧
      (∀ j, j ≠ k → s.gu.waiting = [] → t.slot j = s.slot j) ∧
      (s.gu.lane = none → s.gu.waiting = [] → members = [] →
        t.slot k = .done parcel ⟨.notSent, .rosterEmpty, some (0, 0)⟩ ∧ t.report = s.report ++ [.outcome k] ∧ t.gu = s.gu) ∧
      (s.gu.lane = none → s.gu.waiting = [] → members ≠ [] →
        t.slot k = .inFlight parcel ∧ t.report = s.report ∧ t.gu.waiting = [] ∧ t.gu.counter = s.gu.counter + 1 ∧
        ∃ l, t.gu.lane = some l ∧ l.slot = k ∧ l.group = g ∧ l.seq = s.gu.counter ∧ l.pending = l.roster ∧
          (∀ p : StationId, hasStation l.roster p = true ↔ p ∈ members) ∧ l.answered = 0 ∧ l.lost = 0 ∧ l.retry = 0 ∧
          l.sentOnce = false ∧ l.frameDue = true ∧ l.timer = none) ∧
      (s.gu.lane ≠ none → priority = 3 → t.slot k = .waiting parcel ∧ (∀ j, j ≠ k → t.slot j = s.slot j) ∧
        t.report = s.report ∧ t.gu = { s.gu with waiting := s.gu.waiting ++ [k] }) ∧
      (s.gu.lane ≠ none → priority = 2 → t.slot k = .waiting parcel ∧ (∀ j, j ≠ k → t.slot j = s.slot j) ∧
        t.report = s.report ∧ ∀ front back, s.gu.waiting = front ++ back → (∀ j ∈ front, t.urgentSlot j = true) →
          (back = [] ∨ ∃ j rest, back = j :: rest ∧ t.urgentSlot j = false) →
          t.gu = { s.gu with waiting := front ++ k :: back })

/-- CANCEL: a WAITING parcel with the ticket becomes CANCELLED with cause HOST and leaves its list, and a session in OPENING left
with nothing waiting is deleted; a ticket that only an IN-FLIGHT parcel carries, or none, changes nothing. -/
def Obligations.Cancel : Prop :=
  ∀ (s : State) (tag : Byte) (ticket : Ticket), takes s →
    (∀ (k : SlotId) (c : Parcel), s.slot k = .waiting c → c.ticket = ticket →
      (∀ (j : SlotId) (d : Parcel), s.slot j = .waiting d → d.ticket = ticket → j = k) →
      (∀ (p : StationId) (x : TxSession), c.dest = .station p → (s.peer p).tx = some x →
        let rest := x.waiting.filter fun w => decide (w.slot ≠ k)
        exec (.cancel tag ticket) s = .next
          { replied s tag 0x21 .ok [] with
            slots := s.slots.set k.val (.done c ⟨.cancelled, .host, none⟩)
            report := s.report ++ [.outcome k]
            peers := s.peers.set p.val { s.peer p with
              tx := if x.state = .opening ∧ rest = [] then none else some { x with waiting := rest } } }) ∧
      ∀ g : GroupId, c.dest = .group g →
        exec (.cancel tag ticket) s = .next
          { replied s tag 0x21 .ok [] with
            slots := s.slots.set k.val (.done c ⟨.cancelled, .host, some (0, 0)⟩)
            report := s.report ++ [.outcome k]
            gu := { s.gu with waiting := s.gu.waiting.filter fun j => decide (j ≠ k) } }) ∧
    ((∀ (k : SlotId) (c : Parcel), s.slot k = .waiting c → c.ticket ≠ ticket) →
      (∃ (k : SlotId) (c : Parcel), s.slot k = .inFlight c ∧ c.ticket = ticket) →
      exec (.cancel tag ticket) s = .next (replied s tag 0x21 .inFlight [])) ∧
    ((∀ (k : SlotId) (c : Parcel), s.slot k = .waiting c ∨ s.slot k = .inFlight c → c.ticket ≠ ticket) →
      exec (.cancel tag ticket) s = .next (replied s tag 0x21 .unknown []))

/-- FETCH takes the head of the delivered list, frees its slot and returns the parcel; an empty list gives EMPTY.

REPORT takes the head of the report list and returns it by Table 11-10; an outcome entry frees its slot; an empty list gives
EMPTY. The outcome codes, the causes and the notice kinds have the numbers of Tables 11-12 to 11-14. -/
def Obligations.FetchAndReport : Prop :=
  (∀ (s : State) (tag : Byte), takes s →
      (s.delivered = [] → exec (.fetch tag) s = .next (replied s tag 0x30 .empty [])) ∧
      ∀ (k : SlotId) (rest : List SlotId) (p : StationId) (origin : Origin) (payload : List Byte),
        s.delivered = k :: rest → s.slot k = .delivered p origin payload →
        exec (.fetch tag) s = .next
          { replied s tag 0x30 .ok (byteOf p.val :: (match (generalizing := false) origin with | .direct => 0x80 | .group g => byteOf g.val) ::
              byteOf payload.length :: payload) with
            slots := s.slots.set k.val .free, delivered := rest }) ∧
  ((∀ (s : State) (tag : Byte), takes s →
      (s.report = [] → exec (.report tag) s = .next (replied s tag 0x31 .empty [])) ∧
      (∀ (kind : NoticeKind) (peer : Option StationId) (missed : Bool) (rest : List ReportEntry),
        s.report = .notice kind peer missed :: rest →
        exec (.report tag) s = .next
          { replied s tag 0x31 .ok [1, byteOf kind.code, (match (generalizing := false) peer with | some p => byteOf p.val | none => 0xFF),
              if missed then 1 else 0] with report := rest }) ∧
      ∀ (k : SlotId) (rest : List ReportEntry) (c : Parcel) (o : ParcelOutcome),
        s.report = .outcome k :: rest → s.slot k = .done c o →
        exec (.report tag) s = .next
          { replied s tag 0x31 .ok ([0, c.ticket.extractLsb' 8 8, c.ticket.extractLsb' 0 8, byteOf o.code.code,
              byteOf o.cause.code] ++ (match o.sets with
                | none => [0]
                | some (answered, missing) => 1 :: bytes32 answered ++ bytes32 missing)) with
            slots := s.slots.set k.val .free, report := rest }) ∧
    [OutcomeCode.delivered, .partly, .unconfirmed, .notSent, .cancelled].map OutcomeCode.code = [1, 2, 3, 4, 5] ∧
    [Cause.none, .retriesExhausted, .heldTooLong, .peerUnreachable, .noSession, .peerRestarted, .peerLost, .peerLeft, .stationLeft,
      .transmitFault, .clash, .rosterEmpty, .memberLost, .host].map Cause.code = [0, 1, 2, 3, 4, 5, 6, 7, 8, 9, 10, 11, 12, 13] ∧
    [NoticeKind.joinDone, .left, .peerJoined, .peerRestarted, .peerLeft, .peerLost, .silenced, .halted, .lineHeld,
      .lineReleased].map NoticeKind.code = [1, 2, 3, 4, 5, 6, 7, 8, 9, 10])

/-- A notice raised with fewer than 16 on the list is appended with MISSED clear; with 16 the oldest one goes, from wherever it
stands, and the new one is appended with MISSED set (R185). No outcome entry moves among the others. -/
def Obligations.NoticesAndAtn : Prop :=
  (∀ (l : List ReportEntry) (kind : NoticeKind) (peer : Option StationId),
    (noticeCount l < 16 → reportWithNotice l kind peer = l ++ [.notice kind peer false]) ∧
    (∀ (front back : List ReportEntry) (kind' : NoticeKind) (peer' : Option StationId) (missed : Bool),
      noticeCount l = 16 → l = front ++ .notice kind' peer' missed :: back → (∀ e ∈ front, e.isNotice = false) →
      reportWithNotice l kind peer = front ++ back ++ [.notice kind peer true] ∧
      noticeCount (reportWithNotice l kind peer) = 16) ∧
    (reportWithNotice l kind peer).filter (fun e => !e.isNotice) = l.filter fun e => !e.isNotice) ∧
  ∀ s : State, s.atn = true ↔ s.inReset = false ∧ (s.delivered ≠ [] ∨ s.report ≠ [])

/-! ## The line -/

/-- A bit whose sample has passed ends before the next sample: LINE_SAMPLE acts on the state its boundary leaves, in which the
sample is still to come. A boundary that neither ends a break-off nor is a start point in WAIT only moves LOUT to the next bit's level:
recessive in WAIT, dominant in BREAKOFF, and in CONTEND and SEND the level of the buffered frame's line bit that is next, the opening
mark, the stuffed content and the closing mark being those bits (R1, R5, R46, R48, R49).
That the boundary waits for the row after it is the model's choice (log 6).

RESYNCHRONISATION. An edge before the sample point moves only the time at which the bit is sampled; an edge past it with LOUT
high ends the bit there and the next begins; one seen while LOUT is low moves nothing. The CLKIN period of the edge as the row's
operand, and the recessive sample of a bit whose sample had not been given before the edge, are the model's choice (log 19). -/
def Obligations.BitBoundaries : Prop :=
  ((∀ f : Frame,
      let mark : List Level := [dominant, recessive, recessive, recessive, recessive, recessive, recessive, dominant]
      f.lineBits.map (·.level) = mark ++ f.stuffed.map (·.level) ++ mark) ∧
    ∀ s : State, s.inReset = false → s.lm.sampled = true →
      s.boundary.lm = { s.lm with sampled := false } ∧
      (∀ b : Level, exec (.lineSample b) s = exec (.lineSample b) s.boundary) ∧
      (s.lm.quietRun < 10 ∨ s.tu.state ≠ .wait → (s.tu.state ≠ .breakoff ∨ s.tu.breakoffBits < 12) →
        s.boundary = { s with lm := { s.lm with sampled := false }, tu := { s.tu with lout := s.tu.nextLevel } } ∧
        (s.tu.state = .wait → s.boundary.tu.lout = recessive) ∧
        (s.tu.state = .breakoff → s.boundary.tu.lout = dominant) ∧
        ∀ (x : TransmitBuffer) (bit : LineBit), (s.tu.state = .contend ∨ s.tu.state = .send) → s.tu.buffer = some x →
          x.frame.lineBits[s.tu.lineBits]? = some bit → s.boundary.tu.lout = bit.level)) ∧
  (∀ (s : State) (clocks : Nat), s.inReset = false → clocks < bitClocks s.mu.rate →
      (clocks < sampleClocks s.mu.rate → s.lm.sampled = false → exec (.resynchronisation clocks) s = .next s) ∧
      (clocks < sampleClocks s.mu.rate → s.lm.sampled = true → exec (.resynchronisation clocks) s = .next s.boundary) ∧
      (sampleClocks s.mu.rate ≤ clocks → s.tu.lout = dominant → exec (.resynchronisation clocks) s = .next s) ∧
      (sampleClocks s.mu.rate ≤ clocks → s.tu.lout = recessive → s.lm.sampled = true →
        exec (.resynchronisation clocks) s = .next s.boundary) ∧
      (sampleClocks s.mu.rate ≤ clocks → s.tu.lout = recessive → s.lm.sampled = false →
        exec (.resynchronisation clocks) s = .next (s.takeSample recessive).boundary))

/-- Every sample updates the Line Monitor's record by R10 and Table 1-5, whatever else it brings about. -/
def Obligations.SampleUpdatesRecord : Prop :=
  ∀ (s : State) (b : Level), bitOpen s →
    ∃ t, exec (.lineSample b) s = .next t ∧
      t.lm.polarity = some b ∧ t.lm.sampled = true ∧
      (s.lm.polarity = some b → t.lm.runLength = min 32 (s.lm.runLength + 1) ∧ t.lm.firstRun = s.lm.firstRun) ∧
      (s.lm.polarity = none → t.lm.runLength = 1 ∧ t.lm.firstRun = s.lm.firstRun) ∧
      (s.lm.polarity = some (!b) → t.lm.runLength = 1 ∧ t.lm.firstRun = false) ∧
      t.lm.quietRun = (if b = recessive then t.lm.runLength else 0) ∧
      (lineConsistent s → (t.lm.line = .quiet ↔ b = recessive ∧ 10 ≤ t.lm.runLength) ∧
        (t.lm.line = .held ↔ b = dominant ∧ t.lm.runLength = 32))

/-- A sample with no line event, outside an attempt, changes the Line Monitor's record alone in SEEK, unless it completes a mark: a
VIOLATION report changes nothing else there (R25). With no report it changes in GATHER the Frame Receiver's as R26 gives it: held back; a stuff bit removed; a content bit taken and the CRC fed; or, at a stuff error or beyond
554 content bits, the frame discarded; its fields in SEEK are then the reset values, the model's
reading (log 4).

A bit of an attempt that reads back as driven moves the attempt on by one bit, whatever the Frame Receiver makes of the sample;
the seventh arbitration content bit enters SEND. A break-off bit is counted whatever it reads. The model's choices: a bit
is counted at its readback (log 14), and the Frame Receiver's fields after a discard (log 4). -/
def Obligations.PlainBits : Prop :=
  ((∀ (s : State) (b : Level), bitOpen s → s.tu.state = .wait → noLineEvent s b → s.fr.state = .seek →
      s.lm.reportOn b ≠ some .mark → exec (.lineSample b) s = .next { s with lm := s.lm.afterSample b }) ∧
    ∀ (s : State) (b : Level), bitOpen s → s.tu.state = .wait → plainSample s b →
      (s.fr.state = .gather → s.fr.holdBack.length < 7 →
        exec (.lineSample b) s = .next
          { s with lm := s.lm.afterSample b, fr := { s.fr with holdBack := s.fr.holdBack ++ [b] } }) ∧
      ∀ (o : Level) (rest : List Level), s.fr.state = .gather → s.fr.holdBack = o :: rest → rest.length = 6 →
        (s.fr.stuffDue = true → o ≠ s.fr.runValue →
          exec (.lineSample b) s = .next
            { s with lm := s.lm.afterSample b
                     fr := { s.fr with holdBack := rest ++ [b], stuffDue := false, runValue := o, runCount := 1 } }) ∧
        (s.fr.stuffDue = true → o = s.fr.runValue →
          exec (.lineSample b) s = .next { s with lm := s.lm.afterSample b, fr := .reset }) ∧
        (s.fr.stuffDue = false → s.fr.content.length = 554 →
          exec (.lineSample b) s = .next { s with lm := s.lm.afterSample b, fr := .reset }) ∧
        (s.fr.stuffDue = false → s.fr.content.length ≠ 554 →
          let run := if o = s.fr.runValue then s.fr.runCount + 1 else 1
          exec (.lineSample b) s = .next
            { s with lm := s.lm.afterSample b
                     fr := { s.fr with
                             holdBack := rest ++ [b], runValue := o, runCount := run, stuffDue := decide (run = 4),
                             content := s.fr.content ++ [o]
                             crc := if h : 16 ≤ s.fr.content.length
                               then crcStep s.fr.crc s.fr.content[s.fr.content.length - 16] else s.fr.crc } })) ∧
  (∀ (s : State) (b : Level), bitOpen s → noLineEvent s b → noClose s b →
      let heard : FrameReceiver := (s.fr.sample b (s.lm.reportOn b)).1
      ((s.tu.state = .contend ∨ (s.tu.state = .send ∧ s.tu.bits.length ≠ s.tu.lineBits + 1)) → s.tu.lout = b →
        let count := if (∃ x, s.tu.bits[s.tu.lineBits]? = some x ∧ x.isContent = true) ∧ s.tu.arbitrationBits < 7
          then s.tu.arbitrationBits + 1 else s.tu.arbitrationBits
        exec (.lineSample b) s = .next
          { s with lm := s.lm.afterSample b, fr := heard
                   tu := { s.tu with lineBits := s.tu.lineBits + 1, arbitrationBits := count,
                                     state := if count = 7 then .send else s.tu.state } }) ∧
      (s.tu.state = .breakoff →
        exec (.lineSample b) s = .next
          { s with lm := s.lm.afterSample b, fr := heard
                   tu := { s.tu with breakoffBits := min 12 (s.tu.breakoffBits + 1) } }))

/-- LINE_QUIET, the tenth recessive sample, makes the line QUIET; LONG_QUIET, the 24th, clears the deferred flag in every station
state. Outside an attempt, in SEEK, nothing else changes.

LINE_HELD, the 32nd dominant sample: HELD, the notice LINE-HELD unless DETACHED, gathering ended, and an attempt in progress
FAILED at once. LINE_RELEASED, the first recessive sample after it: ACTIVE, and LINE-RELEASED unless DETACHED. The model's choices: LINE-HELD
stands before what an eighth failure at the same sample raises (log 5), the owner is told before that failure (log 20), the Frame
Receiver's fields in SEEK (log 4). -/
def Obligations.QuietAndHeldLine : Prop :=
  (∀ s : State, bitOpen s → lineConsistent s → s.lm.polarity = some recessive →
      (s.lm.runLength = 9 →
        ∃ t, exec .lineQuiet s = .next t ∧
          t.lm = { s.lm with line := .quiet, runLength := 10, quietRun := 10, sampled := true } ∧
          (s.tu.state = .wait → s.fr.state = .seek → t = { s with lm := t.lm })) ∧
      (s.lm.runLength = 23 →
        ∃ t, exec .longQuiet s = .next t ∧
          t.lm = { s.lm with runLength := 24, quietRun := 24, sampled := true } ∧
          (s.tu.state = .wait → s.fr.state = .seek →
            t = { s with lm := t.lm, tu := { s.tu with deferred := false } }))) ∧
  (∀ s : State, bitOpen s → lineConsistent s → s.lm.polarity = some dominant →
      let noticed (n : NoticeKind) : List ReportEntry :=
        if s.mu.station = .detached then s.report else reportWithNotice s.report n none
      let held : State :=
        { s with lm := { s.lm with line := .held, runLength := 32, quietRun := 0, sampled := true }
                 fr := if s.fr.state = .gather then .reset else s.fr
                 report := noticed .lineHeld }
      (s.lm.runLength = 31 → s.tu.state = .wait → exec .lineHeld s = .next held) ∧
      (s.lm.runLength = 31 →
        (s.tu.state = .breakoff ∨ (s.tu.lout = dominant ∧ (s.tu.state = .contend ∨
          (s.tu.state = .send ∧ s.tu.bits.length ≠ s.tu.lineBits + 1)))) →
        exec .lineHeld s = .next held.attemptFailed) ∧
      (s.lm.runLength = 32 → s.tu.state = .wait → s.fr.state = .seek →
        exec .lineReleased s = .next
          { s with lm := { line := .active, polarity := some recessive, runLength := 1, firstRun := false, quietRun := 1,
                           sampled := true }
                   report := noticed .lineReleased }))

/-- FRAME_VIOLATION: a VIOLATION report of Table 1-4, or a stuff error, discards the frame being gathered. Outside an attempt
nothing else changes but the Line Monitor's record. The Frame Receiver's fields in
SEEK after the discard are the reset values, the model's reading (log 4).

OPENING_MARK: in SEEK, a dominant sample after a recessive run of exactly six, not the first run after a reset, moves the
Frame Receiver to GATHER with its record prepared. -/
def Obligations.ViolationAndMark : Prop :=
  (∀ (s : State) (b : Level), bitOpen s → lineConsistent s → s.fr.state = .gather →
      ((b = dominant ∧ s.lm.polarity = some dominant ∧ s.lm.runLength = 4) ∨
       (b = recessive ∧ s.lm.polarity = some recessive ∧ s.lm.runLength = 6) ∨
       (b = dominant ∧ s.lm.polarity = some recessive ∧ (s.lm.runLength = 5 ∨ (s.lm.runLength = 6 ∧ s.lm.firstRun = true))) ∨
       (s.lm.reportOn b = none ∧ s.fr.stuffDue = true ∧ ∃ rest, s.fr.holdBack = s.fr.runValue :: rest ∧ rest.length = 6)) →
      ∃ t, exec (.frameViolation b) s = .next t ∧ t.fr = .reset ∧ t.lm = s.lm.afterSample b ∧
        (s.tu.state = .wait → s.lm.line = .active → s.lm.runLength < 9 →
          t = { s with lm := s.lm.afterSample b, fr := .reset })) ∧
  (∀ s : State, bitOpen s → lineConsistent s → s.fr.state = .seek → s.lm.polarity = some recessive → s.lm.runLength = 6 →
      s.lm.firstRun = false →
      ∃ t, exec .openingMark s = .next t ∧
        t.fr = { state := .gather, holdBack := [], runValue := dominant, runCount := 1, stuffDue := false, content := [],
                 crc := 0xFFFF } ∧
        t.lm = { line := .active, polarity := some dominant, runLength := 1, firstRun := false, quietRun := 0, sampled := true } ∧
        (s.tu.state = .wait → t = { s with lm := t.lm, fr := t.fr }))

/-- FRAME_CLOSE: a mark in GATHER closes the frame. Content that fails a check of section 2.4 is discarded; a valid frame acts as
the row of its kind, or as CLASH when it bears the own number; the own frame of an attempt that ends with it is not dispatched. The Frame Receiver's fields in SEEK
after the close are the reset values, the model's reading (log 4); the frame rows are logs 12 and 13.

What the checks at the closing mark accept: stuffing of the tail, 42 bits, CRC, length agreement, consistency (Tables 2-5 and
2-6). -/
def Obligations.FrameClose : Prop :=
  (∀ s : State, bitOpen s → lineConsistent s → s.fr.state = .gather → s.lm.polarity = some recessive → s.lm.runLength = 6 →
      s.lm.firstRun = false →
      (s.tu.state = .wait → checkClosed s.fr.stuffDue s.fr.crc s.fr.content = none →
        exec .frameClose s = .next (marked s)) ∧
      (∀ m : Msg, s.tu.state = .wait → checkClosed s.fr.stuffDue s.fr.crc s.fr.content = some m →
        (m.src ≠ s.mu.number → exec .frameClose s = exec (rowOf m) s) ∧
        (m.src = s.mu.number → exec .frameClose s = exec (.clash m) s)) ∧
      (s.tu.state = .send → s.tu.lout = dominant → s.tu.bits.length = s.tu.lineBits + 1 →
        exec .frameClose s = .next { ({ s with lm := .atMark } : State).attemptSent with fr := .reset })) ∧
  (∀ (stuffDue : Bool) (crc : BitVec 16) (c : List Bool) (m : Msg),
      checkClosed stuffDue crc c = some m →
        stuffDue = false ∧ 42 ≤ c.length ∧ c.length = 42 + 8 * fieldAt c 19 7 ∧ fieldAt c (c.length - 16) 16 = crc.toNat ∧
        m.valid = true ∧ m.toFrame.src.val = fieldAt c 2 5 ∧ m.toFrame.cls.val = fieldAt c 0 2 ∧
        m.toFrame.dst.val = fieldAt c 7 6 ∧ m.toFrame.kind.val = fieldAt c 13 3 ∧ m.toFrame.seq.val = fieldAt c 16 3 ∧
        m.toFrame.payload = (frameOfContent c).payload)

/-- LOST_CONTENTION: a bit driven recessive in CONTEND that reads dominant, in the opening mark or in the arbitration field, ends the
attempt LOST: WAIT, the buffer empty, LOUT left high, failure count, deferred flag and pointer unchanged, and the owner told; the
frame goes on being received. The attempt's counts are 0 then, which is the model's choice (log 28).

MISMATCH: a difference in SEND, or a dominant bit read recessive in CONTEND, enters BREAKOFF; the owner is told nothing. -/
def Obligations.ContentionAndMismatch : Prop :=
  (∀ (s : State) (x : TransmitBuffer), bitOpen s → noLineEvent s dominant → noClose s dominant → s.tu.state = .contend →
      s.tu.lout = recessive → s.tu.buffer = some x →
      exec .lostContention s = .next
        { ({ s with lm := s.lm.afterSample dominant, tu := waiting s.tu } : State).tellOwner x.owner false with
          fr := (s.fr.sample dominant (s.lm.reportOn dominant)).1 } ∧
      exec (.lineSample dominant) s = exec .lostContention s) ∧
  (∀ s : State, bitOpen s → noLineEvent s (!s.tu.lout) → noClose s (!s.tu.lout) →
      (s.tu.state = .send ∨ (s.tu.state = .contend ∧ s.tu.lout = dominant)) →
      exec .mismatch s = .next
        { s with lm := s.lm.afterSample (!s.tu.lout), tu := { s.tu with state := .breakoff, breakoffBits := 0 }
                 fr := (s.fr.sample (!s.tu.lout) (s.lm.reportOn (!s.tu.lout))).1 } ∧
      exec (.lineSample (!s.tu.lout)) s = exec .mismatch s)

/-- BREAKOFF_END: the boundary after the twelfth dominant bit ends the attempt FAILED: the line released, WAIT, the failure count
up by one, and the owner told; the eighth failure then takes effect. The deferred flag and the pointer are unchanged. The model's
choices: no attempt starts at this boundary, whatever the quiet run (log 6), the owner is told first (log 20), the counts are 0 (log
28).

The eighth failure (R76). In MEMBER the station is SILENCED and torn down with cause TRANSMIT-FAULT: each parcel has the outcome
of R121 or R155, the outcome entries stand in the order of R181, and the notice SILENCED stands after them; no roll is due
or on the line, and the group sequence counter is kept (R75, R147). In LEAVING it is SILENCED,
or DETACHED with LEFT once the leave timer has run out. -/
def Obligations.BreakoffEnd : Prop :=
  (∀ (s : State) (x : TransmitBuffer), s.inReset = false → s.lm.sampled = true → s.tu.state = .breakoff →
      s.tu.breakoffBits = 12 → s.tu.buffer = some x → s.tu.failures < 8 →
      let told : State :=
        ({ s with lm := { s.lm with sampled := false }
                  tu := { waiting s.tu with lout := recessive, failures := s.tu.failures + 1 } } : State).tellOwner x.owner false
      exec .breakoffEnd s = .next (if s.tu.failures = 7 then told.eighthFailure else told)) ∧
  (∀ s : State, s.tu.state = .wait →
      (s.mu.station = .member → parcelsHeldOnce s →
        s.eighthFailure.mu.station = .silenced ∧ tornDown s.eighthFailure ∧ nothingOutstanding s.eighthFailure ∧
        s.eighthFailure.mu.rollDue = false ∧ s.eighthFailure.mu.rollOnLine = .off ∧ s.eighthFailure.tu = s.tu ∧
        s.eighthFailure.gu.counter = s.gu.counter ∧ teardownOutcomes s .transmitFault s.eighthFailure ∧
        s.eighthFailure.report = reportWithNotice (s.report ++ (teardownOrder s).map .outcome) .silenced none) ∧
      (s.mu.station = .leaving → s.mu.leaveExpired = false →
        s.eighthFailure = { s with
          mu := { s.mu with station := .silenced, leaveTimer := none, rollDue := false, rollOnLine := .off }
          report := reportWithNotice s.report .silenced none }) ∧
      (s.mu.station = .leaving → s.mu.leaveExpired = true →
        s.eighthFailure = { s with
          mu := { s.mu with station := .detached, leaveTimer := none, leaveExpired := false, rollDue := false,
                            rollOnLine := .off }
          report := reportWithNotice s.report .left none }) ∧
      (s.mu.station ≠ .member → s.mu.station ≠ .leaving → s.eighthFailure = s))

/-- SENT: the final dominant bit of the closing mark reads back: WAIT, the failure count 0, and for a data frame the deferred flag
set and the pointer one past its position, modulo 33; the owner is told, and the own frame is dispatched to no block.
The attempt's counts are 0 then, which is the model's choice (log 28). -/
def Obligations.Sent : Prop :=
  ∀ (s : State) (x : TransmitBuffer), bitOpen s → lineConsistent s → s.lm.runLength < 31 → s.tu.state = .send →
    s.tu.lout = dominant → s.tu.bits.length = s.tu.lineBits + 1 → s.tu.buffer = some x → s.lm.line ≠ .held →
    exec .sent s = .next
      { ({ s with lm := s.lm.afterSample dominant
                  tu := match x.position with
                    | some i => { waiting s.tu with failures := 0, deferred := true, pointer := i + 1 }
                    | none => { waiting s.tu with failures := 0 } } : State).tellOwner x.owner true with
        fr := (s.fr.sample dominant (s.lm.reportOn dominant)).1 }

/-- What each owner does with a result, when its item still exists (R69, R79, R104, R110, R111, R139, R140, R149). That the end of an
ORDINARY roll also ends a leave whose timer has run out is the model's reading (log 18).

A result whose item is gone is ignored by its owner (R56): the session deleted or broken, the window entry removed, no OPEN of
this session on the line, no answer-queue entry on the line, the lane finished or BUSY with another parcel, no roll on the line. That
a session created again does not take the result of an earlier OPEN is the model's reading (log 17). -/
def Obligations.ResultAtOwner : Prop :=
  ((∀ (s : State) (p : StationId) (q : Seq) (t : TxSession) (e : WindowEntry) (front back : List WindowEntry) (c : Parcel),
      (s.peer p).tx = some t → t.window = front ++ e :: back → e.seq = q → (∀ f ∈ front, f.seq ≠ q) →
      s.slot e.slot = .inFlight c →
      s.tellOwner (.window p q) true = { s with
        slots := s.slots.set e.slot.val (.inFlight { c with sentOnce := true })
        peers := s.peers.set p.val { s.peer p with tx := some { t with
          resend := if t.resend = some q then back.head?.map (·.seq) else t.resend
          answerTimer := if t.answerTimer = none ∧ t.held = false then some s.cfg.answerWait else t.answerTimer } } } ∧
      s.tellOwner (.window p q) false = { s with
        peers := s.peers.set p.val { s.peer p with tx := some { t with
          resend := if t.resend = none then some q else t.resend } } }) ∧
    (∀ (s : State) (p : StationId) (t : TxSession), (s.peer p).tx = some t → t.state = .opening → t.openOnLine = true →
      s.tellOwner (.openReq p) true = { s with
        peers := s.peers.set p.val { s.peer p with tx := some { t with
          openOnLine := false, openDue := false, answerTimer := some s.cfg.answerWait } } } ∧
      s.tellOwner (.openReq p) false = { s with
        peers := s.peers.set p.val { s.peer p with tx := some { t with openOnLine := false } } }) ∧
    (∀ (s : State) (l : Lane), s.gu.lane = some l →
      s.tellOwner (.lane l.slot l.seq) true = { s with
        gu := { s.gu with lane := some { l with sentOnce := true, frameDue := false, timer := some s.cfg.answerWait } } } ∧
      s.tellOwner (.lane l.slot l.seq) false = s) ∧
    (∀ (s : State) (front back : List AnswerEntry) (e : AnswerEntry), s.answers = front ++ e :: back → e.onLine = true →
      (∀ f ∈ front ++ back, f.onLine = false) →
      s.tellOwner .answer true = { s with answers := front ++ back } ∧
      s.tellOwner .answer false = { s with
        answers := if ∃ f ∈ back ++ front, f.dest = e.dest ∧ f.subject = e.subject then front ++ back
          else front ++ { e with onLine := false } :: back }) ∧
    ∀ (s : State) (joined : Bool), s.mu.rollOnLine ≠ .off →
      (s.mu.station = .member →
        s.tellOwner (.roll joined) true = { s with
          mu := { s.mu with rollOnLine := .off, rollDue := false,
                            joinedPending := if joined then false else s.mu.joinedPending } } ∧
        s.tellOwner (.roll joined) false = { s with mu := { s.mu with rollOnLine := .off } }) ∧
      (s.mu.station = .leaving → s.tu.state = .wait →
        let left : State := { s with
          mu := { s.mu with station := .detached, leaveTimer := none, leaveExpired := false, rollDue := false,
                            rollOnLine := .off }
          report := reportWithNotice s.report .left none }
        (∀ b : Bool, s.mu.leaveExpired = true → s.tellOwner (.roll joined) b = left) ∧
        (s.mu.leaveExpired = false → s.mu.rollOnLine = .part → s.tellOwner (.roll joined) true = left) ∧
        (∀ b : Bool, s.mu.leaveExpired = false → (b = false ∨ s.mu.rollOnLine = .ordinary) →
          s.tellOwner (.roll joined) b = { s with mu := { s.mu with rollOnLine := .off } }))) ∧
  (∀ (s : State) (b : Bool),
      (∀ (p : StationId) (q : Seq), (∀ t, (s.peer p).tx = some t → ∀ e ∈ t.window, e.seq ≠ q) →
        s.tellOwner (.window p q) b = s) ∧
      (∀ p : StationId, (∀ t, (s.peer p).tx = some t → t.state = .opened ∨ t.openOnLine = false) →
        s.tellOwner (.openReq p) b = s) ∧
      (∀ (k : SlotId) (q : Seq), (∀ l, s.gu.lane = some l → l.slot ≠ k ∨ l.seq ≠ q) → s.tellOwner (.lane k q) b = s) ∧
      ((∀ e ∈ s.answers, e.onLine = false) → s.tellOwner .answer b = s) ∧
      (s.mu.rollOnLine = .off → ∀ joined : Bool, s.tellOwner (.roll joined) b = s))

/-- The candidate that a start point takes (R41 to R44). In LEAVING only the PART roll; in MEMBER the oldest answer not on the
line, then the roll, then the OPEN to the lowest station, and while the deferred flag is clear a data frame: one of class 2 when
any is offered, and of that class the first from the pointer on.

What each holder offers at a start point (R43, R104, R109, R149). A session in OPENING asks for its OPEN while OPEN-due is set. A
session in OPEN that is not held offers the entry at its resend point, or, with none and room in the window, the head of its waiting
list with the next sequence, which then enters the window. The lane offers its frame while frame-due is set. URGENT is class 2 and
NORMAL class 3. The five frames have the fields of Tables 2-2, 11-2 and 11-3 (R20, R22, R23, R190). -/
def Obligations.CandidateChoice : Prop :=
  ((∀ s : State, s.mu.station ≠ .member → s.mu.station ≠ .leaving → s.choice = none) ∧
    (∀ s : State, s.mu.station = .leaving → s.choice =
      if s.mu.rollDue = true then
        some ⟨(Msg.roll s.mu.number 0 s.cfg.groups (rollFlags s.mu.joinedPending true)).toFrame, .roll s.mu.joinedPending, none,
          false⟩
      else none) ∧
    ∀ s : State, s.mu.station = .member →
      (∀ (front back : List AnswerEntry) (e : AnswerEntry), s.answers = front ++ e :: back → e.onLine = false →
        (∀ f ∈ front, f.onLine = true) → s.choice =
          some ⟨(Msg.answer s.mu.number e.dest e.subject e.code e.number).toFrame, .answer, none, false⟩) ∧
      ((∀ e ∈ s.answers, e.onLine = true) →
        (s.mu.rollDue = true → s.choice =
          some ⟨(Msg.roll s.mu.number 0 s.cfg.groups (rollFlags s.mu.joinedPending false)).toFrame, .roll s.mu.joinedPending, none,
            false⟩) ∧
        (s.mu.rollDue = false →
          (∀ p : StationId, s.openIsDue p = true → (∀ q, q < p → s.openIsDue q = false) → s.choice =
            some ⟨(Msg.openReq s.mu.number p 0).toFrame, .openReq p, none, false⟩) ∧
          ((∀ p : StationId, s.openIsDue p = false) →
            (s.tu.deferred = true → s.choice = none) ∧
            (s.tu.deferred = false →
              ((∀ i : Position, s.offerAt i = none) → s.choice = none) ∧
              ∀ (d : Position) (o : Offer), s.offerAt (s.tu.pointer + d) = some o →
                (∀ d', d' < d → ∀ o', s.offerAt (s.tu.pointer + d') = some o' → o'.frame.cls ≠ o.frame.cls) →
                (o.frame.cls = 2 ∨ (o.frame.cls = 3 ∧ ∀ i o', s.offerAt i = some o' → o'.frame.cls = 3)) →
                s.choice = some o))))) ∧
  ((∀ (s : State) (p : StationId), s.openIsDue p = true ↔
      ∃ t, (s.peer p).tx = some t ∧ t.state = .opening ∧ t.openDue = true) ∧
    (∀ (s : State) (p : StationId) (i : Position), i.val = p.val →
      ((∀ t, (s.peer p).tx = some t → t.state = .opening ∨ t.held = true) → s.offerAt i = none) ∧
      ∀ t, (s.peer p).tx = some t → t.state = .opened → t.held = false →
        (∀ (q : Seq) (front back : List WindowEntry) (e : WindowEntry) (c : Parcel), t.resend = some q →
          t.window = front ++ e :: back → e.seq = q → (∀ f ∈ front, f.seq ≠ q) → s.slot e.slot = .inFlight c →
          s.offerAt i = some ⟨(Msg.data c.urgent s.mu.number p q c.payload).toFrame, .window p q, some i, false⟩) ∧
        (∀ (w : WaitingEntry) (rest : List WaitingEntry) (c : Parcel), t.resend = none → t.window.length < s.cfg.window →
          t.waiting = w :: rest → s.slot w.slot = .waiting c →
          s.offerAt i = some ⟨(Msg.data c.urgent s.mu.number p t.nextSeq c.payload).toFrame, .window p t.nextSeq, some i, true⟩) ∧
        (t.resend = none → (s.cfg.window ≤ t.window.length ∨ t.waiting = []) → s.offerAt i = none)) ∧
    (∀ (s : State) (i : Position), i.val = 32 →
      ((∀ l, s.gu.lane = some l → l.frameDue = false) → s.offerAt i = none) ∧
      ∀ (l : Lane) (c : Parcel), s.gu.lane = some l → l.frameDue = true → s.slot l.slot = .inFlight c →
        s.offerAt i = some ⟨(Msg.group c.urgent s.mu.number l.group l.seq c.payload).toFrame, .lane l.slot l.seq, some i, false⟩) ∧
    (∀ (urgent : Bool) (src dst : StationId) (g : GroupId) (q : Seq) (payload : List Byte),
      (Msg.data urgent src dst q payload).toFrame =
        { cls := if urgent then 2 else 3, src := src, dst := ⟨dst.val, by omega⟩, kind := 0, seq := q, payload := payload } ∧
      (Msg.group urgent src g q payload).toFrame =
        { cls := if urgent then 2 else 3, src := src, dst := ⟨32 + g.val, by omega⟩, kind := 1, seq := q, payload := payload }) ∧
    (∀ (src dst : StationId) (subject : Subject) (code : AnswerCode) (n : Seq),
      (Msg.answer src dst subject code n).toFrame =
        { cls := 0, src := src, dst := ⟨dst.val, by omega⟩, kind := 2, seq := n
          payload := [BitVec.ofNat 8 (16 * subject.toNat + code.toNat)] } ∧
      (Msg.openReq src dst n).toFrame = { cls := 1, src := src, dst := ⟨dst.val, by omega⟩, kind := 3, seq := n, payload := [] }) ∧
    (∀ (src : StationId) (q : Seq) (groups : GroupSet) (flags : Byte),
      (Msg.roll src q groups flags).toFrame = { cls := 1, src := src, dst := 63, kind := 4, seq := q, payload := [groups, flags] }) ∧
    (∀ joined parting : Bool, rollFlags joined parting = (if joined then 0x80 else 0) ||| if parting then 0x40 else 0) ∧
    [Subject.data, .group, .openReq].map Subject.toNat = [0, 1, 3] ∧
    [AnswerCode.taken, .gap, .hold, .noSession, .refused].map AnswerCode.toNat = [0, 1, 2, 3, 4])

/-- START_POINT: with no candidate the bit begins and nothing else changes; with one an attempt starts in CONTEND with LOUT
dominant and a copy of the frame, and its owner's item goes on the line (Table 3-5). In an attempt a start point is ignored (R41): the
bit begins, dominant in BREAKOFF, and the boundary after a break-off's twelfth bit is its end. The model's choices: the row stands for
that boundary (log 6), and the attempt counts start at 0 (log 28). -/
def Obligations.StartPoint : Prop :=
  (∀ s : State, s.inReset = false → s.lm.sampled = true → 10 ≤ s.lm.quietRun → s.tu.state ≠ .wait →
    (s.tu.state ≠ .breakoff ∨ s.tu.breakoffBits < 12 →
      exec .startPoint s = .next { s with lm := { s.lm with sampled := false }, tu := { s.tu with lout := s.tu.nextLevel } }) ∧
    (s.tu.state = .breakoff → s.tu.breakoffBits < 12 →
      exec .startPoint s = .next { s with lm := { s.lm with sampled := false }, tu := { s.tu with lout := dominant } }) ∧
    (s.tu.state = .breakoff → s.tu.breakoffBits = 12 → exec .startPoint s = exec .breakoffEnd s)) ∧
  ∀ s : State, s.inReset = false → s.lm.sampled = true → 10 ≤ s.lm.quietRun → s.tu.state = .wait →
    let begun (o : Offer) : State :=
      { s with lm := { s.lm with sampled := false }
               tu := { s.tu with state := .contend, buffer := some ⟨o.frame, o.owner, o.position⟩, lineBits := 0,
                                 arbitrationBits := 0, breakoffBits := 0, lout := dominant } }
    (s.choice = none →
      exec .startPoint s = .next { s with lm := { s.lm with sampled := false }, tu := { s.tu with lout := recessive } }) ∧
    ∀ o : Offer, s.choice = some o →
      (∀ (front back : List AnswerEntry) (e : AnswerEntry), o.owner = .answer → s.answers = front ++ e :: back →
        e.onLine = false → (∀ f ∈ front, f.onLine = true) →
        exec .startPoint s = .next { begun o with answers := front ++ { e with onLine := true } :: back }) ∧
      (∀ j : Bool, o.owner = .roll j → exec .startPoint s = .next { begun o with
        mu := { s.mu with rollOnLine := if s.mu.station = .leaving then .part else .ordinary } }) ∧
      (∀ (p : StationId) (t : TxSession), o.owner = .openReq p → (s.peer p).tx = some t →
        exec .startPoint s = .next { begun o with
          peers := s.peers.set p.val { s.peer p with tx := some { t with openOnLine := true, answerTimer := none } } }) ∧
      (∀ (p : StationId) (q : Seq), o.owner = .window p q → o.entering = false → exec .startPoint s = .next (begun o)) ∧
      (∀ (p : StationId) (q : Seq) (t : TxSession) (w : WaitingEntry) (rest : List WaitingEntry) (c : Parcel),
        o.owner = .window p q → o.entering = true → (s.peer p).tx = some t → t.waiting = w :: rest →
        s.slot w.slot = .waiting c →
        exec .startPoint s = .next { begun o with
          slots := s.slots.set w.slot.val (.inFlight { c with sentOnce := false })
          peers := s.peers.set p.val { s.peer p with tx := some { t with
            waiting := rest, window := t.window ++ [⟨w.slot, t.nextSeq⟩], nextSeq := t.nextSeq + 1 } } }) ∧
      ∀ (k : SlotId) (q : Seq), o.owner = .lane k q → exec .startPoint s = .next (begun o)

/-! ## Frames of other stations -/

/-- In DETACHED, LEAVING, SILENCED and HALTED a valid frame has no effect on any block; in JOINING one that is no ROLL and no clash
has none. The Frame Receiver is back in SEEK. The model's choices: the row acts as the closing sample whatever the line or an attempt was before, HELD included (log 12), and the
Frame Receiver's fields in SEEK are the reset values (log 4).

In MEMBER a frame for another station, or for a group outside the configured set, renews its source and, if it is a data
frame, clears the deferred flag, and reaches no further block. The same choices (logs 4 and 12) hold here. -/
def Obligations.FramesWithoutUse : Prop :=
  (∀ (s : State) (m : Msg), s.inReset = false → (rowOf m).wellFormed = true →
      (s.mu.station ≠ .member → s.mu.station ≠ .joining → exec (rowOf m) s = .next (marked s)) ∧
      (s.mu.station = .joining → m.src ≠ s.mu.number → (∀ src q groups flags, m ≠ .roll src q groups flags) →
        exec (rowOf m) s = .next (marked s))) ∧
  (∀ (s : State) (src dst : StationId) (q : Seq) (urgent : Bool) (payload : List Byte) (subject : Subject) (code : AnswerCode)
      (g : GroupId), hears s src → dst ≠ src → dst ≠ s.mu.number → payload.length ≤ 64 →
      exec (.data urgent src dst q payload) s = .next (heard s src true) ∧
      exec (.openFrame src dst q) s = .next (heard s src false) ∧
      exec (rowOf (.answer src dst subject code q)) s = .next (heard s src false) ∧
      (hasGroup s.cfg.groups g = false → exec (.group urgent src g q payload) s = .next (heard s src true)))

/-- CLASH: in MEMBER the station is HALTED and torn down with cause CLASH, its attempt ended at once without a result: each parcel
has the outcome of R121 or R155, by its sent-once flag alone, and the outcome entries stand in the order of R181; no roll is due or on the line, and the group sequence counter is kept (R75, R147); in JOINING it is HALTED with its
peer table cleared; the notice HALTED stands last. In any other state nothing but the close happens. The model's choices: the row acts
as the closing sample whatever the line or an attempt was before, HELD included (log 12), with the source field not read (log 13), the
Frame Receiver's fields in SEEK are the reset values (log 4), and the counts of the ended attempt are 0 (log 28). -/
def Obligations.Clash : Prop :=
  ∀ (s : State) (m : Msg), s.inReset = false → (m.withSrc s.mu.number).valid = true →
    (s.mu.station = .member → parcelsHeldOnce s →
      ∃ t, exec (.clash m) s = .next t ∧ t.mu.station = .halted ∧ tornDown t ∧ nothingOutstanding t ∧
        t.tu = (if s.tu.state = .wait then s.tu else { waiting s.tu with lout := recessive }) ∧
        t.lm = .atMark ∧ t.fr = .reset ∧ t.delivered = s.delivered ∧ t.cfg = s.cfg ∧ t.reply = s.reply ∧
        t.mu.rollDue = false ∧ t.mu.rollOnLine = .off ∧ t.gu.counter = s.gu.counter ∧
        (∀ k : SlotId, t.slot k ≠ s.slot k → ∃ c o, (s.slot k = .waiting c ∨ s.slot k = .inFlight c) ∧
          t.slot k = .done c o ∧ o.cause = .clash ∧ (s.slot k = .waiting c → o.code = .notSent) ∧
          ∀ p : StationId, s.slot k = .inFlight c → c.dest = .station p →
            o.code = if c.sentOnce = true then .unconfirmed else .notSent) ∧
        teardownOutcomes s .clash t ∧
        t.report = reportWithNotice (s.report ++ (teardownOrder s).map .outcome) .halted none) ∧
    (s.mu.station = .joining →
      ∃ t, exec (.clash m) s = .next t ∧
        t = { marked s with
              mu := { s.mu with station := .halted, joinTimer := none }
              tu := if s.tu.state = .wait then s.tu else { waiting s.tu with lout := recessive }
              peers := t.peers
              report := reportWithNotice s.report .halted none } ∧
        ∀ p : StationId, t.peer p = if (s.peer p).presence = .self then s.peer p
          else { s.peer p with presence := .absent, groups := 0, silence := 0 }) ∧
    (s.mu.station ≠ .member → s.mu.station ≠ .joining → exec (.clash m) s = .next (marked s))

/-- ROLL in JOINING (R65): it makes its source PRESENT with the groups of the roll, or ABSENT when it parts; no notice is raised. The model's choices: the row acts as the closing sample whatever the line or an attempt was before, HELD included (log 12), and the
Frame Receiver's fields in SEEK are the reset values (log 4).

ROLL in MEMBER from an ABSENT peer (R71) and a plain one from a PRESENT peer (R72). The same choices (logs 4 and 12) hold here. -/
def Obligations.RollTaken : Prop :=
  (∀ (s : State) (p : StationId) (q : Seq) (groups : GroupSet) (flags : Byte), s.inReset = false → s.mu.station = .joining →
      p ≠ s.mu.number → (joinedFlag flags && partingFlag flags) = false → (s.peer p).presence ≠ .self →
      (partingFlag flags = false → exec (.roll p q groups flags) s = .next
        { marked s with peers := s.peers.set p.val { s.peer p with presence := .present, groups := groups, silence := 0 } }) ∧
      (partingFlag flags = true → (s.peer p).presence = .present → exec (.roll p q groups flags) s = .next
        { marked s with peers := s.peers.set p.val { s.peer p with presence := .absent, groups := 0, silence := 0 } }) ∧
      (partingFlag flags = true → (s.peer p).presence = .absent → exec (.roll p q groups flags) s = .next (marked s))) ∧
  (∀ (s : State) (p : StationId) (q : Seq) (groups : GroupSet) (flags : Byte), hears s p →
      (joinedFlag flags && partingFlag flags) = false →
      let present : State :=
        { marked s with peers := s.peers.set p.val { s.peer p with presence := .present, groups := groups, silence := 0 } }
      ((s.peer p).presence = .absent → partingFlag flags = false → exec (.roll p q groups flags) s = .next
        { present with report := reportWithNotice s.report .peerJoined (some p) }) ∧
      ((s.peer p).presence = .absent → partingFlag flags = true → exec (.roll p q groups flags) s = .next (marked s)) ∧
      ((s.peer p).presence = .present → joinedFlag flags = false → partingFlag flags = false →
        exec (.roll p q groups flags) s = .next present))

/-- A ROLL with JOINED or PARTING from a PRESENT peer (R72 to R74): its rx record and last group sequence go, and the lane counts it
lost if it was pending. JOINED keeps it PRESENT and reopens its session, which keeps only parcels never sent; PARTING makes it
ABSENT and ends its session. The notice stands after the outcomes. The model's choices: the row acts as the closing sample whatever the line or an attempt was before, HELD included (log 12), and the
Frame Receiver's fields in SEEK are the reset values (log 4).

The whole of such a roll, by its two events: PARTING hands over the peer-absent event with PEER-LEFT, whose session makes the
terminal break (`TerminalBreak` says what that is), JOINED the peer-restart event, whose session makes the reopening break with
PEER-RESTARTED: sent entries UNCONFIRMED, the others back to waiting. Both then count the peer lost in the lane, which may end its
parcel PARTIAL with MEMBER-LOST. That a reopened session keeps its next sequence and its OPEN's mark is the model's reading (log
16). -/
def Obligations.RollEndsPeer : Prop :=
  (∀ (s : State) (p : StationId) (q : Seq) (groups : GroupSet) (flags : Byte), hears s p → (s.peer p).presence = .present →
      (joinedFlag flags && partingFlag flags) = false → (joinedFlag flags = true ∨ partingFlag flags = true) →
      ∃ t, exec (.roll p q groups flags) s = .next t ∧
        (∃ new, (∀ e ∈ new, ∃ k, e = .outcome k) ∧
          t.report = reportWithNotice (s.report ++ new) (if joinedFlag flags = true then .peerRestarted else .peerLeft) (some p)) ∧
        (t.peer p).rx = none ∧ (t.peer p).lastGroup = none ∧ (t.peer p).silence = 0 ∧
        (∀ p' : StationId, p' ≠ p → t.peer p' = s.peer p') ∧ t.tu = s.tu ∧ t.mu = s.mu ∧ t.answers = s.answers ∧
        t.delivered = s.delivered ∧ t.lm = .atMark ∧ t.fr = .reset ∧
        (∀ l, s.gu.lane = some l → hasStation l.pending p = true → dropStation l.pending p ≠ 0 →
          t.gu.lane = some { l with pending := dropStation l.pending p, lost := addStation l.lost p }) ∧
        (∀ l, s.gu.lane = some l → hasStation l.pending p = false → t.gu.lane = some l) ∧
        (partingFlag flags = true →
          (t.peer p).presence = .absent ∧ (t.peer p).groups = 0 ∧ (t.peer p).tx = none) ∧
        (joinedFlag flags = true →
          (t.peer p).presence = .present ∧ (t.peer p).groups = groups ∧
          ((s.peer p).tx = none → (t.peer p).tx = none) ∧
          ∀ x, (s.peer p).tx = some x →
            let back := x.window.filter fun e => !s.countsSent p .peerRestarted e
            (back = [] → x.waiting = [] → (t.peer p).tx = none) ∧
            (back ≠ [] ∨ x.waiting ≠ [] → ∃ y, (t.peer p).tx = some y ∧ y.state = .opening ∧ y.window = [] ∧
              y.waiting = back.map (fun e => ⟨e.slot, true⟩) ++ x.waiting ∧ y.resend = none ∧ y.retry = 0 ∧ y.hold = 0 ∧
              y.held = false ∧ y.holdTimer = none ∧ y.answerTimer = none ∧ y.openDue = true ∧ y.refusalPause = false))) ∧
  ((∀ (s : State) (p : StationId) (cause : Cause),
      ((s.peer p).tx = none → s.terminalBreak p cause = s ∧ s.reopeningBreak p cause = s) ∧
      memberGone (({ s with peers := s.peers.set p.val { s.peer p with presence := .absent, groups := 0, silence := 0, rx := none } }
        : State).terminalBreak p cause) p (s.peerAbsent p cause) ∧
      memberGone (({ s with peers := s.peers.set p.val { s.peer p with rx := none } } : State).reopeningBreak p .peerRestarted) p
        (s.peerRestart p) ∧
      ∀ x, (s.peer p).tx = some x → parcelsHeldOnce s →
        let out := x.window.filter (s.countsSent p cause)
        let back := x.window.filter fun e => !s.countsSent p cause e
        let waiting := back.map (fun e => (⟨e.slot, true⟩ : WaitingEntry)) ++ x.waiting
        let t := s.reopeningBreak p cause
        t = { s with
              slots := t.slots
              report := s.report ++ out.map fun e => .outcome e.slot
              peers := s.peers.set p.val { s.peer p with tx := if waiting = [] then none else some { x with
                state := .opening, waiting := waiting, window := [], resend := none, retry := 0, hold := 0, held := false,
                holdTimer := none, answerTimer := none, openDue := true, refusalPause := false } } } ∧
        (∀ e ∈ out, ∃ c, s.slot e.slot = .inFlight c ∧ t.slot e.slot = .done c ⟨.unconfirmed, cause, none⟩) ∧
        (∀ e ∈ back, ∃ c, s.slot e.slot = .inFlight c ∧ t.slot e.slot = .waiting { c with sentOnce := false }) ∧
        ∀ k : SlotId, (∀ e ∈ x.window, e.slot ≠ k) → t.slot k = s.slot k) ∧
    ∀ (s : State) (p : StationId) (q : Seq) (groups : GroupSet) (flags : Byte), hears s p → (s.peer p).presence = .present →
      (partingFlag flags = true → joinedFlag flags = false →
        let u := (heard s p false).peerAbsent p .peerLeft
        exec (.roll p q groups flags) s = .next { u with report := reportWithNotice u.report .peerLeft (some p) }) ∧
      (joinedFlag flags = true → partingFlag flags = false →
        let u := (heard s p false).peerRestart p
        exec (.roll p q groups flags) s = .next { u with
          peers := u.peers.set p.val { u.peer p with presence := .present, groups := groups, silence := 0 }
          report := reportWithNotice u.report .peerRestarted (some p) }))

/-- A break at a peer's roll or a NO-SESSION: every window entry of the session counts as sent when its sent-once flag is set or its
frame is on the line in CONTEND or SEND (R120).

The terminal break (R121): window entries oldest first, UNCONFIRMED or NOT-SENT as they count, then waiting parcels head first
NOT-SENT, all with the cause, and the session is deleted; nothing else changes. -/
def Obligations.TerminalBreak : Prop :=
  (∀ (s : State) (p : StationId) (cause : Cause) (e : WindowEntry) (c : Parcel), s.slot e.slot = .inFlight c →
      (s.countsSent p cause e = true ↔ c.sentOnce = true ∨ (cause ≠ .clash ∧ (s.tu.state = .contend ∨ s.tu.state = .send) ∧
        ∃ x, s.tu.buffer = some x ∧ x.owner = .window p e.seq))) ∧
  (∀ (s : State) (p : StationId) (cause : Cause) (x : TxSession), (s.peer p).tx = some x → parcelsHeldOnce s →
      let t := s.terminalBreak p cause
      t = { s with slots := t.slots
                   report := s.report ++ (x.window.map fun e => .outcome e.slot) ++ x.waiting.map fun w => .outcome w.slot
                   peers := s.peers.set p.val { s.peer p with tx := none } } ∧
      (∀ e ∈ x.window, ∃ c, s.slot e.slot = .inFlight c ∧ t.slot e.slot =
        .done c ⟨if s.countsSent p cause e = true then .unconfirmed else .notSent, cause, none⟩) ∧
      (∀ w ∈ x.waiting, ∃ c, s.slot w.slot = .waiting c ∧ t.slot w.slot = .done c ⟨.notSent, cause, none⟩) ∧
      ∀ k : SlotId, (∀ e ∈ x.window, e.slot ≠ k) → (∀ w ∈ x.waiting, w.slot ≠ k) → t.slot k = s.slot k)

/-- OPEN to this station (R127, R128): with room for its answer a PRESENT peer's creates or replaces the rx record with e = 0 and is
answered TAKEN 0, an ABSENT peer's is answered REFUSED 0; without room it is dropped. The model's choices: the row acts as the closing sample whatever the line or an attempt was before, HELD included (log 12), and the
Frame Receiver's fields in SEEK are the reset values (log 4). -/
def Obligations.OpenToThisStation : Prop :=
  ∀ (s : State) (p : StationId) (q : Seq), hears s p →
    (s.answerRoom p .openReq = false → exec (.openFrame p s.mu.number q) s = .next (heard s p false)) ∧
    (s.answerRoom p .openReq = true → (s.peer p).presence ≠ .present →
      exec (.openFrame p s.mu.number q) s = .next
        { heard s p false with answers := placeInQueue s.answers p .openReq .refused 0 }) ∧
    (s.answerRoom p .openReq = true → (s.peer p).presence = .present →
      exec (.openFrame p s.mu.number q) s = .next
        { heard s p false with
          peers := s.peers.set p.val { s.peer p with silence := 0, rx := some 0 }
          answers := placeInQueue s.answers p .openReq .taken 0 })

/-- A new DATA frame, with its sequence equal to e: delivered with its TAKEN in one event when a slot is FREE and the answer has
room; answered HOLD with e unchanged when no slot is FREE; dropped when the answer has no room. The model's choices: the row acts as the closing sample whatever the line or an attempt was before, HELD included (log 12), and the
Frame Receiver's fields in SEEK are the reset values (log 4). -/
def Obligations.DataNew : Prop :=
  ∀ (s : State) (urgent : Bool) (p : StationId) (e : Seq) (payload : List Byte), hears s p → payload.length ≤ 64 →
    (s.peer p).rx = some e →
    (s.answerRoom p .data = false → exec (.data urgent p s.mu.number e payload) s = .next (heard s p true)) ∧
    (s.answerRoom p .data = true → (∀ k : SlotId, s.slot k ≠ .free) →
      exec (.data urgent p s.mu.number e payload) s = .next
        { heard s p true with answers := placeInQueue s.answers p .data .hold e }) ∧
    ∀ k : SlotId, s.answerRoom p .data = true → s.slot k = .free → (∀ j, j < k → s.slot j ≠ .free) →
      exec (.data urgent p s.mu.number e payload) s = .next
        { heard s p true with
          slots := s.slots.set k.val (.delivered p .direct payload)
          delivered := s.delivered ++ [k]
          peers := (heard s p true).peers.set p.val { (heard s p true).peer p with rx := some (e + 1) }
          answers := placeInQueue s.answers p .data .taken (e + 1) }

/-- A DATA frame without an rx record is answered NO-SESSION 0 (R130); with d = e - s from 1 to 4 it is a duplicate, answered TAKEN with e;
with d from 5 to 7 it is ahead, answered GAP with e. Nothing is delivered; without room it is dropped. The model's choices: the row acts as the closing sample whatever the line or an attempt was before, HELD included (log 12), and the
Frame Receiver's fields in SEEK are the reset values (log 4). -/
def Obligations.DataNotNew : Prop :=
  ∀ (s : State) (urgent : Bool) (p : StationId) (q : Seq) (payload : List Byte), hears s p → payload.length ≤ 64 →
    (∀ e, (s.peer p).rx = some e → e ≠ q) →
    (s.answerRoom p .data = false → exec (.data urgent p s.mu.number q payload) s = .next (heard s p true)) ∧
    (s.answerRoom p .data = true →
      ((s.peer p).rx = none → exec (.data urgent p s.mu.number q payload) s = .next
        { heard s p true with answers := placeInQueue s.answers p .data .noSession 0 }) ∧
      ∀ e, (s.peer p).rx = some e →
        ((e - q).val ≤ 4 → exec (.data urgent p s.mu.number q payload) s = .next
          { heard s p true with answers := placeInQueue s.answers p .data .taken e }) ∧
        (5 ≤ (e - q).val → exec (.data urgent p s.mu.number q payload) s = .next
          { heard s p true with answers := placeInQueue s.answers p .data .gap e }))

/-- GROUP for a configured group, by the rows of Table 8-4. The model's choices: the row acts as the closing sample whatever the line or an attempt was before, HELD included (log 12), and the
Frame Receiver's fields in SEEK are the reset values (log 4). -/
def Obligations.GroupFrame : Prop :=
  ∀ (s : State) (urgent : Bool) (p : StationId) (g : GroupId) (q : Seq) (payload : List Byte), hears s p →
    payload.length ≤ 64 → hasGroup s.cfg.groups g = true →
    ((s.peer p).presence ≠ .present ∨ s.answerRoom p .group = false →
      exec (.group urgent p g q payload) s = .next (heard s p true)) ∧
    ((s.peer p).presence = .present → s.answerRoom p .group = true →
      ((s.peer p).lastGroup = some q → exec (.group urgent p g q payload) s = .next
        { heard s p true with answers := placeInQueue s.answers p .group .taken q }) ∧
      ((s.peer p).lastGroup ≠ some q →
        ((∀ k : SlotId, s.slot k ≠ .free) → exec (.group urgent p g q payload) s = .next
          { heard s p true with answers := placeInQueue s.answers p .group .hold q }) ∧
        ∀ k : SlotId, s.slot k = .free → (∀ j, j < k → s.slot j ≠ .free) → exec (.group urgent p g q payload) s = .next
          { heard s p true with
            slots := s.slots.set k.val (.delivered p (.group g) payload)
            delivered := s.delivered ++ [k]
            peers := s.peers.set p.val { s.peer p with silence := 0, lastGroup := some q }
            answers := placeInQueue s.answers p .group .taken q }))

/-- Room and placing (R126, R137): an answer has room when its key waits or fewer than 8 entries are held; placed, it overwrites
the code and number of the entry that waits under its key, in place, or joins the tail. -/
def Obligations.AnswerPlacing : Prop :=
  ∀ (s : State) (d : StationId) (x : Subject) (c : AnswerCode) (n : Seq),
    (s.answerRoom d x = true ↔ (∃ e ∈ s.answers, e.dest = d ∧ e.subject = x ∧ e.onLine = false) ∨ s.answers.length < 8) ∧
    ((∀ e ∈ s.answers, ¬ (e.dest = d ∧ e.subject = x ∧ e.onLine = false)) →
      placeInQueue s.answers d x c n = s.answers ++ [⟨d, x, c, n, false⟩]) ∧
    ∀ (front back : List AnswerEntry) (e : AnswerEntry), s.answers = front ++ e :: back → e.dest = d → e.subject = x →
      e.onLine = false → (∀ f ∈ front ++ back, ¬ (f.dest = d ∧ f.subject = x ∧ f.onLine = false)) →
      placeInQueue s.answers d x c n = front ++ ⟨d, x, c, n, false⟩ :: back

/-- ANSWER with subject DATA to a session in OPEN: k = number - oldest; a TAKEN, GAP or HOLD with a k above the window length is stale
and changes nothing; otherwise the first k entries become DELIVERED in order, and a TAKEN clears the counts, keeps or moves the resend
point and restarts or stops the answer timer of an unheld session; a GAP or HOLD that empties the window has no further effect (R112,
R113). The model's choices: the row acts as the closing sample whatever the line or an attempt was before, HELD included (log 12), and the
Frame Receiver's fields in SEEK are the reset values (log 4). -/
def Obligations.AnswerDataTaken : Prop :=
  ∀ (s : State) (p : StationId) (n : Seq) (x : TxSession), hears s p → (s.peer p).presence = .present →
    (s.peer p).tx = some x → x.state = .opened →
    let k := (n - x.oldest).val
    let rest := x.window.drop k
    (x.window.length < k → ∀ code : AnswerCode, code = .taken ∨ code = .gap ∨ code = .hold →
      exec (.answerData p s.mu.number code n) s = .next (heard s p false)) ∧
    (k ≤ x.window.length → (∀ e ∈ x.window, isInFlight (s.slot e.slot) = true) → (x.window.map (·.slot)).Nodup →
      (∃ t, exec (.answerData p s.mu.number .taken n) s = .next t ∧
        acknowledged s p x k { x with
          window := rest, retry := 0, hold := 0
          resend := if (∃ e ∈ x.window.take k, x.resend = some e.seq) then rest.head?.map (·.seq) else x.resend
          answerTimer := if x.held = true then x.answerTimer else if rest = [] then none else some s.cfg.answerWait } t) ∧
      (rest = [] → ∀ code : AnswerCode, code = .gap ∨ code = .hold →
        ∃ t, exec (.answerData p s.mu.number code n) s = .next t ∧
          acknowledged s p x k { x with window := [], resend := none, answerTimer := none } t))

/-- GAP and HOLD that leave entries in the window of a session in OPEN, after the removal of the entries they acknowledge: the GAP's
retry step and rewind, the HOLD's count and pause, and the terminal breaks at their limits (R112, R114, R115, R108, R121). With nothing
acknowledged (number = oldest) the slots and the report list stay as they are. The model's choices: the row acts as the closing sample whatever the line or an attempt was before, HELD included (log 12), and the
Frame Receiver's fields in SEEK are the reset values (log 4). -/
def Obligations.AnswerDataGapHold : Prop :=
  (∀ (s : State) (p : StationId) (x : TxSession) (e : WindowEntry) (back : List WindowEntry), hears s p →
    (s.peer p).presence = .present → (s.peer p).tx = some x → x.state = .opened → x.window = e :: back →
    let withSession (y : TxSession) : State :=
      { heard s p false with peers := s.peers.set p.val { s.peer p with silence := 0, tx := some y } }
    (x.retry ≠ s.cfg.retryLimit → exec (.answerData p s.mu.number .gap e.seq) s = .next
      (withSession { x with retry := x.retry + 1, resend := some e.seq, answerTimer := none })) ∧
    (x.hold ≠ 15 → exec (.answerData p s.mu.number .hold e.seq) s = .next
      (withSession { x with hold := x.hold + 1, held := true, answerTimer := none, holdTimer := some s.cfg.answerWait })) ∧
    (x.retry = s.cfg.retryLimit → exec (.answerData p s.mu.number .gap e.seq) s =
      .next ((withSession x).terminalBreak p .retriesExhausted)) ∧
    (x.hold = 15 → exec (.answerData p s.mu.number .hold e.seq) s =
      .next ((withSession x).terminalBreak p .heldTooLong))) ∧
  ∀ (s : State) (p : StationId) (n : Seq) (x : TxSession) (e : WindowEntry) (back : List WindowEntry), hears s p →
    (s.peer p).presence = .present → (s.peer p).tx = some x → x.state = .opened →
    let k := (n - x.oldest).val
    x.window.drop k = e :: back → (∀ f ∈ x.window, isInFlight (s.slot f.slot) = true) → (x.window.map (·.slot)).Nodup →
    (x.retry ≠ s.cfg.retryLimit → ∃ t, exec (.answerData p s.mu.number .gap n) s = .next t ∧
      acknowledged s p x k { x with window := e :: back, retry := x.retry + 1, resend := some e.seq, answerTimer := none } t) ∧
    (x.retry = s.cfg.retryLimit → ∃ t, exec (.answerData p s.mu.number .gap n) s = .next (t.terminalBreak p .retriesExhausted) ∧
      acknowledged s p x k { x with window := e :: back } t) ∧
    (x.hold ≠ 15 → ∃ t, exec (.answerData p s.mu.number .hold n) s = .next t ∧
      acknowledged s p x k { x with
        window := e :: back, hold := x.hold + 1, held := true, answerTimer := none, holdTimer := some s.cfg.answerWait
        resend := if (∃ f ∈ x.window.take k, x.resend = some f.seq) then some e.seq else x.resend } t) ∧
    (x.hold = 15 → ∃ t, exec (.answerData p s.mu.number .hold n) s = .next (t.terminalBreak p .heldTooLong) ∧
      acknowledged s p x k { x with window := e :: back } t)

/-- NO-SESSION with subject DATA at a session in OPEN makes the reopening break whatever its number: sent entries UNCONFIRMED with
cause NO-SESSION, entries never sent back to the front of the waiting list, marked returned, and a new OPEN due; with nothing left
to wait the session is deleted. An answer from a peer with no session, ABSENT or not, one to a session in OPENING, and a REFUSED are
ignored (R117, R112, R122). That the break keeps the next sequence and the mark of an OPEN on the line is the model's
reading (log 16). The model's choices: the row acts as the closing sample whatever the line or an attempt was before, HELD included (log 12), and the
Frame Receiver's fields in SEEK are the reset values (log 4). -/
def Obligations.AnswerDataNoSession : Prop :=
  ∀ (s : State) (p : StationId) (n : Seq), hears s p →
    (∀ x, (s.peer p).presence = .present → (s.peer p).tx = some x → x.state = .opened → parcelsHeldOnce s →
      let out := x.window.filter (s.countsSent p .noSession)
      let back := x.window.filter fun e => !s.countsSent p .noSession e
      let waiting := back.map (fun e => (⟨e.slot, true⟩ : WaitingEntry)) ++ x.waiting
      ∃ t, exec (.answerData p s.mu.number .noSession n) s = .next t ∧
        t = { heard s p false with
              slots := t.slots
              report := s.report ++ out.map fun e => .outcome e.slot
              peers := s.peers.set p.val { s.peer p with silence := 0, tx := if waiting = [] then none else some { x with
                state := .opening, waiting := waiting, window := [], resend := none, retry := 0, hold := 0, held := false,
                holdTimer := none, answerTimer := none, openDue := true, refusalPause := false } } } ∧
        (∀ e ∈ out, ∃ c, s.slot e.slot = .inFlight c ∧ t.slot e.slot = .done c ⟨.unconfirmed, .noSession, none⟩) ∧
        (∀ e ∈ back, ∃ c, s.slot e.slot = .inFlight c ∧ t.slot e.slot = .waiting { c with sentOnce := false }) ∧
        ∀ k : SlotId, (∀ e ∈ x.window, e.slot ≠ k) → t.slot k = s.slot k) ∧
    ∀ code : AnswerCode, (∀ x, (s.peer p).tx = some x → x.state = .opening ∨ code = .refused) →
      exec (.answerData p s.mu.number code n) s = .next (heard s p false)

/-- ANSWER with subject OPEN (R105, R106): TAKEN 0 makes a session in OPENING OPEN; REFUSED takes a retry step and pauses, or breaks
the session at the limit; everything else is ignored. The model's choices: the row acts as the closing sample whatever the line or an attempt was before, HELD included (log 12), the
Frame Receiver's fields in SEEK are the reset values (log 4), and TAKEN clears the mark of an OPEN on the line (log 32). -/
def Obligations.AnswerOpen : Prop :=
  ∀ (s : State) (p : StationId) (n : Seq), hears s p → (s.peer p).presence = .present →
    (∀ x, (s.peer p).tx = some x → x.state = .opening →
      let withSession (y : TxSession) : State :=
        { heard s p false with peers := s.peers.set p.val { s.peer p with silence := 0, tx := some y } }
      exec (.answerOpen p s.mu.number .taken 0) s = .next (withSession
        { x with state := .opened, nextSeq := 0, window := [], resend := none, retry := 0, hold := 0, openDue := false,
                 held := false, refusalPause := false, answerTimer := none, holdTimer := none, openOnLine := false }) ∧
      (x.retry ≠ s.cfg.retryLimit → exec (.answerOpen p s.mu.number .refused n) s = .next (withSession
        { x with retry := x.retry + 1, openDue := false, refusalPause := true, answerTimer := some s.cfg.answerWait })) ∧
      (x.retry = s.cfg.retryLimit → exec (.answerOpen p s.mu.number .refused n) s =
        .next ((withSession x).terminalBreak p .peerUnreachable))) ∧
    ∀ code : AnswerCode, ((s.peer p).tx = none ∨ (∃ x, (s.peer p).tx = some x ∧ x.state = .opened) ∨
        (code = .taken ∧ n ≠ 0) ∨ code = .gap ∨ code = .hold ∨ code = .noSession) →
      exec (.answerOpen p s.mu.number code n) s = .next (heard s p false)

/-- ANSWER with subject GROUP: a TAKEN with the lane's group sequence moves a pending member to answered; the last one ends the
parcel DELIVERED, or PARTIAL with MEMBER-LOST when members were lost, and the load follows (`Load` says what it does); every other
answer is ignored (R150, R151). The model's choices: the row acts as the closing sample whatever the line or an attempt was before, HELD included (log 12), and the
Frame Receiver's fields in SEEK are the reset values (log 4). -/
def Obligations.AnswerGroup : Prop :=
  ∀ (s : State) (m : StationId) (code : AnswerCode) (n : Seq), hears s m →
    ((s.gu.lane = none ∨ (∃ l, s.gu.lane = some l ∧ (n ≠ l.seq ∨ code ≠ .taken ∨ hasStation l.pending m = false))) →
      exec (.answerGroup m s.mu.number code n) s = .next (heard s m false)) ∧
    ∀ l, s.gu.lane = some l → hasStation l.pending m = true →
      let pending := dropStation l.pending m
      let answered := addStation l.answered m
      (pending ≠ 0 → exec (.answerGroup m s.mu.number .taken l.seq) s = .next
        { heard s m false with gu := { s.gu with lane := some { l with pending := pending, answered := answered } } }) ∧
      (pending = 0 → ∀ c, s.slot l.slot = .inFlight c →
        exec (.answerGroup m s.mu.number .taken l.seq) s = .next
          ({ heard s m false with
            slots := s.slots.set l.slot.val (.done c
              (if l.lost = 0 then ⟨.delivered, .none, some (answered, 0)⟩ else ⟨.partly, .memberLost, some (answered, l.lost)⟩))
            report := s.report ++ [.outcome l.slot]
            gu := { s.gu with lane := none } } : State).load)

/-- The load of an IDLE lane in MEMBER (R146): a head with an empty roster ends NOT-SENT with ROSTER-EMPTY and the load takes place
again; a head with a roster enters the lane with the counter's value, and the counter advances. With no parcel waiting, a BUSY lane,
or a station not MEMBER nothing happens. -/
def Obligations.Load : Prop :=
  ∀ s : State,
    (s.gu.lane ≠ none ∨ s.mu.station ≠ .member ∨ s.gu.waiting = [] → s.load = s) ∧
    ∀ (k : SlotId) (rest : List SlotId) (c : Parcel) (g : GroupId), s.gu.lane = none → s.mu.station = .member →
      s.gu.waiting = k :: rest → s.slot k = .waiting c → c.dest = .group g →
      let members : List StationId :=
        allStations.filter fun p => decide ((s.peer p).presence = .present) && hasGroup (s.peer p).groups g
      (members = [] → s.load =
        ({ s with slots := s.slots.set k.val (.done c ⟨.notSent, .rosterEmpty, some (0, 0)⟩)
                  report := s.report ++ [.outcome k]
                  gu := { s.gu with waiting := rest } } : State).load) ∧
      (members ≠ [] → ∃ roster : StationSet, (∀ p : StationId, hasStation roster p = true ↔ p ∈ members) ∧ s.load =
        { s with slots := s.slots.set k.val (.inFlight { c with sentOnce := false })
                 gu := { waiting := rest, counter := s.gu.counter + 1
                         lane := some { slot := k, group := g, seq := s.gu.counter, roster := roster, pending := roster,
                                        answered := 0, lost := 0, retry := 0, sentOnce := false, frameDue := true,
                                        timer := none } } })

/-! ## Timers -/

/-- The join timer makes a JOINING station MEMBER with its first roll due, JOINED pending, the roll timer started and JOIN-DONE
raised (R66). The leave timer in LEAVING ends the leave, or waits for a roll on the line (R80). A timer that is stopped has no
expiry (log 3). That the end of the leave ends an attempt that is no roll is the model's choice (log 30), as are its
counts, then 0 (log 28), and the stopped timer that has run out (log 29). -/
def Obligations.JoinAndLeaveTimers : Prop :=
  ∀ s : State,
    (s.mu.station = .joining → s.mu.joinTimer ≠ none → exec .joinTimerExpiry s = .next
      { s with mu := { s.mu with station := .member, joinTimer := none, rollDue := true, joinedPending := true,
                                 rollTimer := some (10 * s.cfg.rollInterval) }
               report := reportWithNotice s.report .joinDone none }) ∧
    (s.mu.station = .leaving → s.mu.leaveTimer ≠ none →
      (s.mu.rollOnLine = .off → exec .leaveTimerExpiry s = .next
        { s with mu := { s.mu with station := .detached, leaveTimer := none, leaveExpired := false, rollDue := false,
                                   rollOnLine := .off }
                 tu := if s.tu.state = .wait then s.tu else { waiting s.tu with lout := recessive }
                 report := reportWithNotice s.report .left none }) ∧
      (s.mu.rollOnLine ≠ .off → exec .leaveTimerExpiry s = .next
        { s with mu := { s.mu with leaveTimer := none, leaveExpired := true } })) ∧
    (s.mu.joinTimer = none → exec .joinTimerExpiry s = .next s) ∧
    (s.mu.rollTimer = none → exec .rollTimerExpiry s = .next s) ∧
    (s.mu.leaveTimer = none → exec .leaveTimerExpiry s = .next s)

/-- The roll timer in MEMBER: roll-due set, the timer started again, and every PRESENT peer one older; with none of them at its third
expiry nothing else changes (R67, R68). The peers at their third expiry are lost in ascending station number, each by the peer-absent
event with PEER-LOST (`RollEndsPeer` says what that does, lane and outcomes included) and then its notice, before the next. -/
def Obligations.RollTimer : Prop :=
  ∀ s : State, s.mu.station = .member → s.mu.rollTimer ≠ none →
    (∃ t, exec .rollTimerExpiry s = .next t ∧
      t.mu = { s.mu with rollDue := true, rollTimer := some (10 * s.cfg.rollInterval) } ∧ t.tu = s.tu ∧ t.lm = s.lm ∧
      t.fr = s.fr ∧ t.answers = s.answers ∧ t.delivered = s.delivered ∧
      (∀ p : StationId, (s.peer p).presence = .present → (s.peer p).silence < 2 →
        (t.peer p).presence = .present ∧ (t.peer p).silence = (s.peer p).silence + 1 ∧ (t.peer p).tx = (s.peer p).tx ∧
        (t.peer p).rx = (s.peer p).rx ∧ (t.peer p).groups = (s.peer p).groups) ∧
      (∀ p : StationId, (s.peer p).presence = .present → (s.peer p).silence = 2 →
        (t.peer p).presence = .absent ∧ (t.peer p).silence = 0 ∧ (t.peer p).groups = 0 ∧ (t.peer p).tx = none ∧
        (t.peer p).rx = none ∧ (t.peer p).lastGroup = none) ∧
      (∀ p : StationId, (s.peer p).presence ≠ .present → t.peer p = s.peer p) ∧
      ((∀ p : StationId, (s.peer p).presence = .present → (s.peer p).silence < 2) →
        t.report = s.report ∧ t.slots = s.slots ∧ t.gu = s.gu) ∧
      ∀ p : StationId, (s.peer p).presence = .present → (s.peer p).silence = 2 →
        (∀ p' : StationId, p' ≠ p → (s.peer p').presence = .present → (s.peer p').silence < 2) →
        ∃ new, (∀ e ∈ new, ∃ k, e = .outcome k) ∧ t.report = reportWithNotice (s.report ++ new) .peerLost (some p)) ∧
    ∃ aged : State,
      aged = { s with mu := { s.mu with rollDue := true, rollTimer := some (10 * s.cfg.rollInterval) }, peers := aged.peers } ∧
      (∀ p : StationId, aged.peer p =
        if (s.peer p).presence = .present then { s.peer p with silence := (s.peer p).silence + 1 } else s.peer p) ∧
      let lost := allStations.filter fun p => decide ((s.peer p).presence = .present ∧ 2 ≤ (s.peer p).silence)
      exec .rollTimerExpiry s = .next (lost.foldl (fun u p =>
        let v := u.peerAbsent p .peerLost
        { v with report := reportWithNotice v.report .peerLost (some p) }) aged)

/-- The three timers of a session (R107, R116, R118): what each expiry does below the retry limit, the terminal break at it, and
that a stopped timer, or one whose session is gone, has no expiry (log 3).

The lane's answer timer (R153): below the retry limit the count rises and the frame is due again; at it the parcel ends PARTIAL
with RETRIES-EXHAUSTED, the answered set and the missing set, and the load follows (`Load` says what it does). -/
def Obligations.SessionAndLaneTimers : Prop :=
  (∀ (s : State) (p : StationId),
      (∀ x, (s.peer p).tx = some x →
        let withSession (y : TxSession) : State := { s with peers := s.peers.set p.val { s.peer p with tx := some y } }
        (x.answerTimer ≠ none → x.state = .opening →
          (x.refusalPause = true → exec (.openAnswerTimerExpiry p) s = .next
            (withSession { x with answerTimer := none, openDue := true, refusalPause := false })) ∧
          (x.refusalPause = false → x.retry ≠ s.cfg.retryLimit → exec (.openAnswerTimerExpiry p) s = .next
            (withSession { x with answerTimer := none, openDue := true, retry := x.retry + 1 })) ∧
          (x.refusalPause = false → x.retry = s.cfg.retryLimit → exec (.openAnswerTimerExpiry p) s =
            .next ((withSession { x with answerTimer := none, openDue := true }).terminalBreak p .peerUnreachable))) ∧
        (x.answerTimer ≠ none → x.state = .opened →
          (x.retry ≠ s.cfg.retryLimit → exec (.answerTimerExpiry p) s = .next
            (withSession { x with answerTimer := none, retry := x.retry + 1, resend := x.window.head?.map (·.seq) })) ∧
          (x.retry = s.cfg.retryLimit → exec (.answerTimerExpiry p) s =
            .next ((withSession { x with answerTimer := none }).terminalBreak p .retriesExhausted))) ∧
        (x.holdTimer ≠ none → exec (.holdTimerExpiry p) s = .next
          (withSession { x with holdTimer := none, held := false, resend := x.window.head?.map (·.seq) })) ∧
        (x.answerTimer = none → exec (.openAnswerTimerExpiry p) s = .next s ∧ exec (.answerTimerExpiry p) s = .next s) ∧
        (x.holdTimer = none → exec (.holdTimerExpiry p) s = .next s)) ∧
      ((s.peer p).tx = none → exec (.openAnswerTimerExpiry p) s = .next s ∧ exec (.answerTimerExpiry p) s = .next s ∧
        exec (.holdTimerExpiry p) s = .next s)) ∧
  (∀ (s : State) (l : Lane), s.gu.lane = some l →
      (l.timer = none → exec .laneAnswerTimerExpiry s = .next s) ∧
      (l.timer ≠ none → l.retry ≠ s.cfg.retryLimit → exec .laneAnswerTimerExpiry s = .next
        { s with gu := { s.gu with lane := some { l with timer := none, retry := l.retry + 1, frameDue := true } } }) ∧
      (l.timer ≠ none → l.retry = s.cfg.retryLimit → ∀ c, s.slot l.slot = .inFlight c →
        exec .laneAnswerTimerExpiry s = .next
          ({ s with slots := s.slots.set l.slot.val (.done c
                      ⟨.partly, .retriesExhausted, some (l.answered, l.pending ||| l.lost)⟩)
                    report := s.report ++ [.outcome l.slot]
                    gu := { s.gu with lane := none } } : State).load))

/-! ## Invariants that every step keeps, in every state -/

/-- The Line Monitor's record stays consistent, the Transmit Unit's counts stay in their ranges, and an attempt is in progress only
in MEMBER and LEAVING. -/
def Obligations.LineInvariants : Prop :=
  ∀ s t : State, step s = .next t →
    (lineConsistent s → lineConsistent t) ∧ (transmitRanges s → transmitRanges t) ∧ (attemptsAllowed s → attemptsAllowed t)

/-- At most 32 outbound slots; a fresh ticket in the counter; the delivered list and the report list hold exactly the DELIVERED and
the DONE slots, and at most 16 notices stand. -/
def Obligations.StoreInvariants : Prop :=
  ∀ s t : State, step s = .next t →
    (outboundCapped s → outboundCapped t) ∧ (ticketFresh s → ticketFresh t) ∧ (deliveredMatches s → deliveredMatches t) ∧
    (reportMatches s → reportMatches t)

/-- The peer table stays consistent with the own number, and sessions, rx records, answers and group work exist only in MEMBER and,
per peer, only while it is PRESENT. -/
def Obligations.PeerInvariants : Prop :=
  ∀ s t : State, step s = .next t → (peersConsistent s → peersConsistent t) ∧ (workOnlyInMember s → workOnlyInMember t)

/-- The answer queue, the group lane, the tx sessions and the configuration block stay within their bounds, in states where work
exists only in MEMBER. -/
def Obligations.WorkInvariants : Prop :=
  ∀ s t : State, step s = .next t → workOnlyInMember s →
    (answersBounded s → answersBounded t) ∧ (laneConsistent s → laneConsistent t) ∧ (sessionsBounded s → sessionsBounded t) ∧
    (configInRange s → configInRange t)

/-- Every posted parcel without an outcome is held in exactly one place, by the holder its destination names; so outside MEMBER none
is outstanding. -/
def Obligations.ParcelsHeldOnce : Prop :=
  (∀ s t : State, step s = .next t → parcelsHeldOnce s → parcelsHeldOnce t) ∧
  ∀ s : State, parcelsHeldOnce s → workOnlyInMember s → s.mu.station ≠ .member → nothingOutstanding s

/-- Every invariant above holds at reset. -/
def Obligations.InvariantsAtReset : Prop :=
  lineConsistent State.reset ∧ transmitRanges State.reset ∧ attemptsAllowed State.reset ∧ outboundCapped State.reset ∧
  ticketFresh State.reset ∧ deliveredMatches State.reset ∧ reportMatches State.reset ∧ peersConsistent State.reset ∧
  workOnlyInMember State.reset ∧ answersBounded State.reset ∧ laneConsistent State.reset ∧ sessionsBounded State.reset ∧
  configInRange State.reset ∧ parcelsHeldOnce State.reset

/-! ## What no command does -/

/-- Whatever the command, short of a reset: a posted parcel keeps its ticket, destination, priority and payload, a DONE slot its
outcome and a DELIVERED slot its parcel; only FETCH frees a slot, that of the delivered list's head, and only REPORT, that of the
report list's head; no other command takes an entry from the delivered list or an outcome entry from the report list. -/
def Obligations.StoreKeepsParcels : Prop :=
  ∀ (c : Instr) (s t : State), isResetRow c = false → exec c s = .next t →
    (∀ k : SlotId, mayBecome (s.slot k) (t.slot k) ∨
      (t.slot k = .free ∧ (∃ tag, c = .fetch tag) ∧ (s.slot k).isDelivered = true ∧ s.delivered.head? = some k) ∨
      (t.slot k = .free ∧ (∃ tag, c = .report tag) ∧ (s.slot k).isDone = true ∧ s.report.head? = some (.outcome k))) ∧
    ((∀ tag, c ≠ .fetch tag) → s.delivered <+: t.delivered) ∧
    ((∀ tag, c ≠ .report tag) →
      (s.report.filter fun e => !e.isNotice) <+: (t.report.filter fun e => !e.isNotice))

/-- No command changes the queue; only CONFIGURE in DETACHED and hardware reset change the configuration block, only the end of a
transaction and hardware reset the reply buffer, only POST and the resets the ticket counter, only hardware reset and its end the
level of RSTN. -/
def Obligations.OwnersOfRegisters : Prop :=
  ∀ (c : Instr) (s t : State), exec c s = .next t →
    t.pending = s.pending ∧
    ((isResetRow c = true ∧ ∀ tag addr rate, c ≠ .restart tag addr rate) ∨
      (((∀ tag a b d e f, c ≠ .configure tag a b d e f) ∨ s.mu.station ≠ .detached → t.cfg = s.cfg) ∧
       (isTransactionEnd c = false → t.reply = s.reply) ∧
       (isTransactionEnd c = false → c ≠ .csnFall → t.port = s.port) ∧
       (isResetRow c = false → (∀ tag d u pl, c ≠ .post tag d u pl) → t.ticket = s.ticket) ∧
       (isResetRow c = false → t.inReset = s.inReset ∧ t.mu.number = s.mu.number ∧ t.mu.rate = s.mu.rate)))

/-! ## Encodings -/

/-- The port reads the bytes of every well-formed host row back as that row, whatever filler follows; RESTART takes the straps as
they stand, which are its operands (log 10). Bytes that make no complete transaction are read as INCOMPLETE_TRANSACTION. -/
def Obligations.HostBytesRoundTrip : Prop :=
  ∀ (i : Instr) (bytes filler : List Byte) (addr : StationId) (rate : Fin 4), i.wellFormed = true →
    encodeTransaction i = some bytes →
    (∀ b, i = .incompleteTransaction b → decodeTransaction addr rate bytes = i) ∧
    (∀ tag addr' rate', i = .restart tag addr' rate' → decodeTransaction addr rate (bytes ++ filler) = .restart tag addr rate) ∧
    ((∀ b, i ≠ .incompleteTransaction b) → (∀ tag addr' rate', i ≠ .restart tag addr' rate') →
      decodeTransaction addr rate (bytes ++ filler) = i)

/-- Every frame that Table 2-6 allows, written as content bits by Table 11-1 with its CRC, has 42 + 8 L bits and is read back by the
closing checks as the same frame. The content
is the header fields, the payload bytes and the CRC, each most significant bit first (Table 11-1); the CRC starts at all ones and
takes each bit of header and payload: the most significant bit is compared with it, the accumulator shifts, and where the two
differ 0x1021 is exclusive-ored in (R18, R21). -/
def Obligations.FrameContentRoundTrip : Prop :=
  (∀ m : Msg, m.valid = true →
    m.toFrame.content.length = 42 + 8 * m.toFrame.payload.length ∧
    checkClosed false (crcOf (m.toFrame.content.take (m.toFrame.content.length - 16))) m.toFrame.content = some m) ∧
  (∀ f : Frame,
    let field (width n : Nat) : List Bool := (List.range width).map fun i => n.testBit (width - 1 - i)
    f.bodyBits = field 2 f.cls.val ++ field 5 f.src.val ++ field 6 f.dst.val ++ field 3 f.kind.val ++ field 3 f.seq.val ++
      field 7 f.payload.length ++ f.payload.flatMap (fun b => [7, 6, 5, 4, 3, 2, 1, 0].map b.toNat.testBit) ∧
    f.content = f.bodyBits ++ field 16 (crcOf f.bodyBits).toNat) ∧
  crcOf [] = 0xFFFF#16 ∧
  ∀ (bits : List Bool) (b : Bool), crcOf (bits ++ [b]) = crcStep (crcOf bits) b ∧
    ∀ acc : BitVec 16, crcStep acc b = if acc.getLsbD 15 ≠ b then (acc <<< 1) ^^^ 0x1021#16 else acc <<< 1

/-- Stuffing (R6, R7): from the last bit of the opening mark to the last bit before the closing mark no five equal bits follow each
other; the content bits are the content; and a frame of c content bits takes at most 16 + c + c / 3 bits. -/
def Obligations.Stuffing : Prop :=
  ∀ f : Frame,
    (∀ (before after : List Level) (b : Level),
      dominant :: f.stuffed.map (·.level) ≠ before ++ List.replicate 5 b ++ after) ∧
    (f.stuffed.filter (·.isContent)).map (·.level) = f.content ∧
    f.lineBits.length ≤ 16 + f.content.length + f.content.length / 3

/-- A frame that an attempt drives onto a QUIET line is received: the line bits before its last bring a Frame Receiver in SEEK to
GATHER with the frame's content, CRC and no stuff bit due, the last carries MARK, and the closing checks give the frame back. -/
def Obligations.FrameOnTheLine : Prop :=
  ∀ (m : Msg) (lm : LineMonitor) (fr : FrameReceiver), m.valid = true → lm.line = .quiet → lm.polarity = some recessive →
    10 ≤ lm.runLength → fr.state = .seek →
    let after := listen (lm, fr) (m.toFrame.lineBits.dropLast.map (·.level))
    (m.toFrame.lineBits.getLast?).map (·.level) = some dominant ∧
    after.1.reportOn dominant = some .mark ∧ after.2.state = .gather ∧ after.2.content = m.toFrame.content ∧
    checkClosed after.2.stuffDue after.2.crc after.2.content = some m
end

