-- ==== Sys2Proof/Laws/State.lean ====
section
/-!
SUPPORT. The small lemmas of the State record: what each named update leaves in each field, and reading a peer entry or a slot back
after it was written. Later proofs cite these and unfold no record update.
-/
namespace Sys2Proof.Machine

open Sys2Proof

/-! ### withPeer -/

@[simp] theorem State.withPeer_pending (s : State) (p : StationId) (e : PeerEntry) : (s.withPeer p e).pending = s.pending := rfl
@[simp] theorem State.withPeer_inReset (s : State) (p : StationId) (e : PeerEntry) : (s.withPeer p e).inReset = s.inReset := rfl
@[simp] theorem State.withPeer_port (s : State) (p : StationId) (e : PeerEntry) : (s.withPeer p e).port = s.port := rfl
@[simp] theorem State.withPeer_lm (s : State) (p : StationId) (e : PeerEntry) : (s.withPeer p e).lm = s.lm := rfl
@[simp] theorem State.withPeer_fr (s : State) (p : StationId) (e : PeerEntry) : (s.withPeer p e).fr = s.fr := rfl
@[simp] theorem State.withPeer_tu (s : State) (p : StationId) (e : PeerEntry) : (s.withPeer p e).tu = s.tu := rfl
@[simp] theorem State.withPeer_mu (s : State) (p : StationId) (e : PeerEntry) : (s.withPeer p e).mu = s.mu := rfl
@[simp] theorem State.withPeer_peers (s : State) (p : StationId) (e : PeerEntry) : (s.withPeer p e).peers = s.peers.set p.val e := rfl
@[simp] theorem State.withPeer_slots (s : State) (p : StationId) (e : PeerEntry) : (s.withPeer p e).slots = s.slots := rfl
@[simp] theorem State.withPeer_delivered (s : State) (p : StationId) (e : PeerEntry) : (s.withPeer p e).delivered = s.delivered := rfl
@[simp] theorem State.withPeer_ticket (s : State) (p : StationId) (e : PeerEntry) : (s.withPeer p e).ticket = s.ticket := rfl
@[simp] theorem State.withPeer_answers (s : State) (p : StationId) (e : PeerEntry) : (s.withPeer p e).answers = s.answers := rfl
@[simp] theorem State.withPeer_gu (s : State) (p : StationId) (e : PeerEntry) : (s.withPeer p e).gu = s.gu := rfl
@[simp] theorem State.withPeer_cfg (s : State) (p : StationId) (e : PeerEntry) : (s.withPeer p e).cfg = s.cfg := rfl
@[simp] theorem State.withPeer_reply (s : State) (p : StationId) (e : PeerEntry) : (s.withPeer p e).reply = s.reply := rfl
@[simp] theorem State.withPeer_report (s : State) (p : StationId) (e : PeerEntry) : (s.withPeer p e).report = s.report := rfl

/-! ### withTx -/

@[simp] theorem State.withTx_pending (s : State) (p : StationId) (x : Option TxSession) : (s.withTx p x).pending = s.pending := rfl
@[simp] theorem State.withTx_inReset (s : State) (p : StationId) (x : Option TxSession) : (s.withTx p x).inReset = s.inReset := rfl
@[simp] theorem State.withTx_port (s : State) (p : StationId) (x : Option TxSession) : (s.withTx p x).port = s.port := rfl
@[simp] theorem State.withTx_lm (s : State) (p : StationId) (x : Option TxSession) : (s.withTx p x).lm = s.lm := rfl
@[simp] theorem State.withTx_fr (s : State) (p : StationId) (x : Option TxSession) : (s.withTx p x).fr = s.fr := rfl
@[simp] theorem State.withTx_tu (s : State) (p : StationId) (x : Option TxSession) : (s.withTx p x).tu = s.tu := rfl
@[simp] theorem State.withTx_mu (s : State) (p : StationId) (x : Option TxSession) : (s.withTx p x).mu = s.mu := rfl
@[simp] theorem State.withTx_peers (s : State) (p : StationId) (x : Option TxSession) : (s.withTx p x).peers = s.peers.set p.val { s.peer p with tx := x } := rfl
@[simp] theorem State.withTx_slots (s : State) (p : StationId) (x : Option TxSession) : (s.withTx p x).slots = s.slots := rfl
@[simp] theorem State.withTx_delivered (s : State) (p : StationId) (x : Option TxSession) : (s.withTx p x).delivered = s.delivered := rfl
@[simp] theorem State.withTx_ticket (s : State) (p : StationId) (x : Option TxSession) : (s.withTx p x).ticket = s.ticket := rfl
@[simp] theorem State.withTx_answers (s : State) (p : StationId) (x : Option TxSession) : (s.withTx p x).answers = s.answers := rfl
@[simp] theorem State.withTx_gu (s : State) (p : StationId) (x : Option TxSession) : (s.withTx p x).gu = s.gu := rfl
@[simp] theorem State.withTx_cfg (s : State) (p : StationId) (x : Option TxSession) : (s.withTx p x).cfg = s.cfg := rfl
@[simp] theorem State.withTx_reply (s : State) (p : StationId) (x : Option TxSession) : (s.withTx p x).reply = s.reply := rfl
@[simp] theorem State.withTx_report (s : State) (p : StationId) (x : Option TxSession) : (s.withTx p x).report = s.report := rfl

/-! ### withRx -/

@[simp] theorem State.withRx_pending (s : State) (p : StationId) (x : Option Seq) : (s.withRx p x).pending = s.pending := rfl
@[simp] theorem State.withRx_inReset (s : State) (p : StationId) (x : Option Seq) : (s.withRx p x).inReset = s.inReset := rfl
@[simp] theorem State.withRx_port (s : State) (p : StationId) (x : Option Seq) : (s.withRx p x).port = s.port := rfl
@[simp] theorem State.withRx_lm (s : State) (p : StationId) (x : Option Seq) : (s.withRx p x).lm = s.lm := rfl
@[simp] theorem State.withRx_fr (s : State) (p : StationId) (x : Option Seq) : (s.withRx p x).fr = s.fr := rfl
@[simp] theorem State.withRx_tu (s : State) (p : StationId) (x : Option Seq) : (s.withRx p x).tu = s.tu := rfl
@[simp] theorem State.withRx_mu (s : State) (p : StationId) (x : Option Seq) : (s.withRx p x).mu = s.mu := rfl
@[simp] theorem State.withRx_peers (s : State) (p : StationId) (x : Option Seq) : (s.withRx p x).peers = s.peers.set p.val { s.peer p with rx := x } := rfl
@[simp] theorem State.withRx_slots (s : State) (p : StationId) (x : Option Seq) : (s.withRx p x).slots = s.slots := rfl
@[simp] theorem State.withRx_delivered (s : State) (p : StationId) (x : Option Seq) : (s.withRx p x).delivered = s.delivered := rfl
@[simp] theorem State.withRx_ticket (s : State) (p : StationId) (x : Option Seq) : (s.withRx p x).ticket = s.ticket := rfl
@[simp] theorem State.withRx_answers (s : State) (p : StationId) (x : Option Seq) : (s.withRx p x).answers = s.answers := rfl
@[simp] theorem State.withRx_gu (s : State) (p : StationId) (x : Option Seq) : (s.withRx p x).gu = s.gu := rfl
@[simp] theorem State.withRx_cfg (s : State) (p : StationId) (x : Option Seq) : (s.withRx p x).cfg = s.cfg := rfl
@[simp] theorem State.withRx_reply (s : State) (p : StationId) (x : Option Seq) : (s.withRx p x).reply = s.reply := rfl
@[simp] theorem State.withRx_report (s : State) (p : StationId) (x : Option Seq) : (s.withRx p x).report = s.report := rfl

/-! ### withLastGroup -/

@[simp] theorem State.withLastGroup_pending (s : State) (p : StationId) (x : Option Seq) : (s.withLastGroup p x).pending = s.pending := rfl
@[simp] theorem State.withLastGroup_inReset (s : State) (p : StationId) (x : Option Seq) : (s.withLastGroup p x).inReset = s.inReset := rfl
@[simp] theorem State.withLastGroup_port (s : State) (p : StationId) (x : Option Seq) : (s.withLastGroup p x).port = s.port := rfl
@[simp] theorem State.withLastGroup_lm (s : State) (p : StationId) (x : Option Seq) : (s.withLastGroup p x).lm = s.lm := rfl
@[simp] theorem State.withLastGroup_fr (s : State) (p : StationId) (x : Option Seq) : (s.withLastGroup p x).fr = s.fr := rfl
@[simp] theorem State.withLastGroup_tu (s : State) (p : StationId) (x : Option Seq) : (s.withLastGroup p x).tu = s.tu := rfl
@[simp] theorem State.withLastGroup_mu (s : State) (p : StationId) (x : Option Seq) : (s.withLastGroup p x).mu = s.mu := rfl
@[simp] theorem State.withLastGroup_peers (s : State) (p : StationId) (x : Option Seq) : (s.withLastGroup p x).peers = s.peers.set p.val { s.peer p with lastGroup := x } := rfl
@[simp] theorem State.withLastGroup_slots (s : State) (p : StationId) (x : Option Seq) : (s.withLastGroup p x).slots = s.slots := rfl
@[simp] theorem State.withLastGroup_delivered (s : State) (p : StationId) (x : Option Seq) : (s.withLastGroup p x).delivered = s.delivered := rfl
@[simp] theorem State.withLastGroup_ticket (s : State) (p : StationId) (x : Option Seq) : (s.withLastGroup p x).ticket = s.ticket := rfl
@[simp] theorem State.withLastGroup_answers (s : State) (p : StationId) (x : Option Seq) : (s.withLastGroup p x).answers = s.answers := rfl
@[simp] theorem State.withLastGroup_gu (s : State) (p : StationId) (x : Option Seq) : (s.withLastGroup p x).gu = s.gu := rfl
@[simp] theorem State.withLastGroup_cfg (s : State) (p : StationId) (x : Option Seq) : (s.withLastGroup p x).cfg = s.cfg := rfl
@[simp] theorem State.withLastGroup_reply (s : State) (p : StationId) (x : Option Seq) : (s.withLastGroup p x).reply = s.reply := rfl
@[simp] theorem State.withLastGroup_report (s : State) (p : StationId) (x : Option Seq) : (s.withLastGroup p x).report = s.report := rfl

/-! ### withPresence -/

@[simp] theorem State.withPresence_pending (s : State) (p : StationId) (pr : Presence) (gs : GroupSet) (n : Nat) : (s.withPresence p pr gs n).pending = s.pending := rfl
@[simp] theorem State.withPresence_inReset (s : State) (p : StationId) (pr : Presence) (gs : GroupSet) (n : Nat) : (s.withPresence p pr gs n).inReset = s.inReset := rfl
@[simp] theorem State.withPresence_port (s : State) (p : StationId) (pr : Presence) (gs : GroupSet) (n : Nat) : (s.withPresence p pr gs n).port = s.port := rfl
@[simp] theorem State.withPresence_lm (s : State) (p : StationId) (pr : Presence) (gs : GroupSet) (n : Nat) : (s.withPresence p pr gs n).lm = s.lm := rfl
@[simp] theorem State.withPresence_fr (s : State) (p : StationId) (pr : Presence) (gs : GroupSet) (n : Nat) : (s.withPresence p pr gs n).fr = s.fr := rfl
@[simp] theorem State.withPresence_tu (s : State) (p : StationId) (pr : Presence) (gs : GroupSet) (n : Nat) : (s.withPresence p pr gs n).tu = s.tu := rfl
@[simp] theorem State.withPresence_mu (s : State) (p : StationId) (pr : Presence) (gs : GroupSet) (n : Nat) : (s.withPresence p pr gs n).mu = s.mu := rfl
@[simp] theorem State.withPresence_peers (s : State) (p : StationId) (pr : Presence) (gs : GroupSet) (n : Nat) : (s.withPresence p pr gs n).peers = s.peers.set p.val { s.peer p with presence := pr, groups := gs, silence := n } := rfl
@[simp] theorem State.withPresence_slots (s : State) (p : StationId) (pr : Presence) (gs : GroupSet) (n : Nat) : (s.withPresence p pr gs n).slots = s.slots := rfl
@[simp] theorem State.withPresence_delivered (s : State) (p : StationId) (pr : Presence) (gs : GroupSet) (n : Nat) : (s.withPresence p pr gs n).delivered = s.delivered := rfl
@[simp] theorem State.withPresence_ticket (s : State) (p : StationId) (pr : Presence) (gs : GroupSet) (n : Nat) : (s.withPresence p pr gs n).ticket = s.ticket := rfl
@[simp] theorem State.withPresence_answers (s : State) (p : StationId) (pr : Presence) (gs : GroupSet) (n : Nat) : (s.withPresence p pr gs n).answers = s.answers := rfl
@[simp] theorem State.withPresence_gu (s : State) (p : StationId) (pr : Presence) (gs : GroupSet) (n : Nat) : (s.withPresence p pr gs n).gu = s.gu := rfl
@[simp] theorem State.withPresence_cfg (s : State) (p : StationId) (pr : Presence) (gs : GroupSet) (n : Nat) : (s.withPresence p pr gs n).cfg = s.cfg := rfl
@[simp] theorem State.withPresence_reply (s : State) (p : StationId) (pr : Presence) (gs : GroupSet) (n : Nat) : (s.withPresence p pr gs n).reply = s.reply := rfl
@[simp] theorem State.withPresence_report (s : State) (p : StationId) (pr : Presence) (gs : GroupSet) (n : Nat) : (s.withPresence p pr gs n).report = s.report := rfl

/-! ### withSlot -/

@[simp] theorem State.withSlot_pending (s : State) (k : SlotId) (v : Slot) : (s.withSlot k v).pending = s.pending := rfl
@[simp] theorem State.withSlot_inReset (s : State) (k : SlotId) (v : Slot) : (s.withSlot k v).inReset = s.inReset := rfl
@[simp] theorem State.withSlot_port (s : State) (k : SlotId) (v : Slot) : (s.withSlot k v).port = s.port := rfl
@[simp] theorem State.withSlot_lm (s : State) (k : SlotId) (v : Slot) : (s.withSlot k v).lm = s.lm := rfl
@[simp] theorem State.withSlot_fr (s : State) (k : SlotId) (v : Slot) : (s.withSlot k v).fr = s.fr := rfl
@[simp] theorem State.withSlot_tu (s : State) (k : SlotId) (v : Slot) : (s.withSlot k v).tu = s.tu := rfl
@[simp] theorem State.withSlot_mu (s : State) (k : SlotId) (v : Slot) : (s.withSlot k v).mu = s.mu := rfl
@[simp] theorem State.withSlot_peers (s : State) (k : SlotId) (v : Slot) : (s.withSlot k v).peers = s.peers := rfl
@[simp] theorem State.withSlot_slots (s : State) (k : SlotId) (v : Slot) : (s.withSlot k v).slots = s.slots.set k.val v := rfl
@[simp] theorem State.withSlot_delivered (s : State) (k : SlotId) (v : Slot) : (s.withSlot k v).delivered = s.delivered := rfl
@[simp] theorem State.withSlot_ticket (s : State) (k : SlotId) (v : Slot) : (s.withSlot k v).ticket = s.ticket := rfl
@[simp] theorem State.withSlot_answers (s : State) (k : SlotId) (v : Slot) : (s.withSlot k v).answers = s.answers := rfl
@[simp] theorem State.withSlot_gu (s : State) (k : SlotId) (v : Slot) : (s.withSlot k v).gu = s.gu := rfl
@[simp] theorem State.withSlot_cfg (s : State) (k : SlotId) (v : Slot) : (s.withSlot k v).cfg = s.cfg := rfl
@[simp] theorem State.withSlot_reply (s : State) (k : SlotId) (v : Slot) : (s.withSlot k v).reply = s.reply := rfl
@[simp] theorem State.withSlot_report (s : State) (k : SlotId) (v : Slot) : (s.withSlot k v).report = s.report := rfl

/-! ### raise -/

@[simp] theorem State.raise_pending (s : State) (n : NoticeKind) (p : Option StationId) : (s.raise n p).pending = s.pending := rfl
@[simp] theorem State.raise_inReset (s : State) (n : NoticeKind) (p : Option StationId) : (s.raise n p).inReset = s.inReset := rfl
@[simp] theorem State.raise_port (s : State) (n : NoticeKind) (p : Option StationId) : (s.raise n p).port = s.port := rfl
@[simp] theorem State.raise_lm (s : State) (n : NoticeKind) (p : Option StationId) : (s.raise n p).lm = s.lm := rfl
@[simp] theorem State.raise_fr (s : State) (n : NoticeKind) (p : Option StationId) : (s.raise n p).fr = s.fr := rfl
@[simp] theorem State.raise_tu (s : State) (n : NoticeKind) (p : Option StationId) : (s.raise n p).tu = s.tu := rfl
@[simp] theorem State.raise_mu (s : State) (n : NoticeKind) (p : Option StationId) : (s.raise n p).mu = s.mu := rfl
@[simp] theorem State.raise_peers (s : State) (n : NoticeKind) (p : Option StationId) : (s.raise n p).peers = s.peers := rfl
@[simp] theorem State.raise_slots (s : State) (n : NoticeKind) (p : Option StationId) : (s.raise n p).slots = s.slots := rfl
@[simp] theorem State.raise_delivered (s : State) (n : NoticeKind) (p : Option StationId) : (s.raise n p).delivered = s.delivered := rfl
@[simp] theorem State.raise_ticket (s : State) (n : NoticeKind) (p : Option StationId) : (s.raise n p).ticket = s.ticket := rfl
@[simp] theorem State.raise_answers (s : State) (n : NoticeKind) (p : Option StationId) : (s.raise n p).answers = s.answers := rfl
@[simp] theorem State.raise_gu (s : State) (n : NoticeKind) (p : Option StationId) : (s.raise n p).gu = s.gu := rfl
@[simp] theorem State.raise_cfg (s : State) (n : NoticeKind) (p : Option StationId) : (s.raise n p).cfg = s.cfg := rfl
@[simp] theorem State.raise_reply (s : State) (n : NoticeKind) (p : Option StationId) : (s.raise n p).reply = s.reply := rfl
@[simp] theorem State.raise_report (s : State) (n : NoticeKind) (p : Option StationId) : (s.raise n p).report = reportWithNotice s.report n p := rfl

/-! ### withLane -/

@[simp] theorem State.withLane_pending (s : State) (l : Lane) : (s.withLane l).pending = s.pending := rfl
@[simp] theorem State.withLane_inReset (s : State) (l : Lane) : (s.withLane l).inReset = s.inReset := rfl
@[simp] theorem State.withLane_port (s : State) (l : Lane) : (s.withLane l).port = s.port := rfl
@[simp] theorem State.withLane_lm (s : State) (l : Lane) : (s.withLane l).lm = s.lm := rfl
@[simp] theorem State.withLane_fr (s : State) (l : Lane) : (s.withLane l).fr = s.fr := rfl
@[simp] theorem State.withLane_tu (s : State) (l : Lane) : (s.withLane l).tu = s.tu := rfl
@[simp] theorem State.withLane_mu (s : State) (l : Lane) : (s.withLane l).mu = s.mu := rfl
@[simp] theorem State.withLane_peers (s : State) (l : Lane) : (s.withLane l).peers = s.peers := rfl
@[simp] theorem State.withLane_slots (s : State) (l : Lane) : (s.withLane l).slots = s.slots := rfl
@[simp] theorem State.withLane_delivered (s : State) (l : Lane) : (s.withLane l).delivered = s.delivered := rfl
@[simp] theorem State.withLane_ticket (s : State) (l : Lane) : (s.withLane l).ticket = s.ticket := rfl
@[simp] theorem State.withLane_answers (s : State) (l : Lane) : (s.withLane l).answers = s.answers := rfl
@[simp] theorem State.withLane_gu (s : State) (l : Lane) : (s.withLane l).gu = { s.gu with lane := some l } := rfl
@[simp] theorem State.withLane_cfg (s : State) (l : Lane) : (s.withLane l).cfg = s.cfg := rfl
@[simp] theorem State.withLane_reply (s : State) (l : Lane) : (s.withLane l).reply = s.reply := rfl
@[simp] theorem State.withLane_report (s : State) (l : Lane) : (s.withLane l).report = s.report := rfl

/-! ### replyWith -/

@[simp] theorem State.replyWith_pending (s : State) (tag code : Byte) (r : Result) (d : List Byte) : (s.replyWith tag code r d).pending = s.pending := rfl
@[simp] theorem State.replyWith_inReset (s : State) (tag code : Byte) (r : Result) (d : List Byte) : (s.replyWith tag code r d).inReset = s.inReset := rfl
@[simp] theorem State.replyWith_port (s : State) (tag code : Byte) (r : Result) (d : List Byte) : (s.replyWith tag code r d).port = s.port := rfl
@[simp] theorem State.replyWith_lm (s : State) (tag code : Byte) (r : Result) (d : List Byte) : (s.replyWith tag code r d).lm = s.lm := rfl
@[simp] theorem State.replyWith_fr (s : State) (tag code : Byte) (r : Result) (d : List Byte) : (s.replyWith tag code r d).fr = s.fr := rfl
@[simp] theorem State.replyWith_tu (s : State) (tag code : Byte) (r : Result) (d : List Byte) : (s.replyWith tag code r d).tu = s.tu := rfl
@[simp] theorem State.replyWith_mu (s : State) (tag code : Byte) (r : Result) (d : List Byte) : (s.replyWith tag code r d).mu = s.mu := rfl
@[simp] theorem State.replyWith_peers (s : State) (tag code : Byte) (r : Result) (d : List Byte) : (s.replyWith tag code r d).peers = s.peers := rfl
@[simp] theorem State.replyWith_slots (s : State) (tag code : Byte) (r : Result) (d : List Byte) : (s.replyWith tag code r d).slots = s.slots := rfl
@[simp] theorem State.replyWith_delivered (s : State) (tag code : Byte) (r : Result) (d : List Byte) : (s.replyWith tag code r d).delivered = s.delivered := rfl
@[simp] theorem State.replyWith_ticket (s : State) (tag code : Byte) (r : Result) (d : List Byte) : (s.replyWith tag code r d).ticket = s.ticket := rfl
@[simp] theorem State.replyWith_answers (s : State) (tag code : Byte) (r : Result) (d : List Byte) : (s.replyWith tag code r d).answers = s.answers := rfl
@[simp] theorem State.replyWith_gu (s : State) (tag code : Byte) (r : Result) (d : List Byte) : (s.replyWith tag code r d).gu = s.gu := rfl
@[simp] theorem State.replyWith_cfg (s : State) (tag code : Byte) (r : Result) (d : List Byte) : (s.replyWith tag code r d).cfg = s.cfg := rfl
@[simp] theorem State.replyWith_reply (s : State) (tag code : Byte) (r : Result) (d : List Byte) : (s.replyWith tag code r d).reply = ⟨tag, code, r, d⟩ := rfl
@[simp] theorem State.replyWith_report (s : State) (tag code : Byte) (r : Result) (d : List Byte) : (s.replyWith tag code r d).report = s.report := rfl

/-! ### csnHigh -/

@[simp] theorem State.csnHigh_pending (s : State) : (s.csnHigh).pending = s.pending := rfl
@[simp] theorem State.csnHigh_inReset (s : State) : (s.csnHigh).inReset = s.inReset := rfl
@[simp] theorem State.csnHigh_port (s : State) : (s.csnHigh).port = .idle := rfl
@[simp] theorem State.csnHigh_lm (s : State) : (s.csnHigh).lm = s.lm := rfl
@[simp] theorem State.csnHigh_fr (s : State) : (s.csnHigh).fr = s.fr := rfl
@[simp] theorem State.csnHigh_tu (s : State) : (s.csnHigh).tu = s.tu := rfl
@[simp] theorem State.csnHigh_mu (s : State) : (s.csnHigh).mu = s.mu := rfl
@[simp] theorem State.csnHigh_peers (s : State) : (s.csnHigh).peers = s.peers := rfl
@[simp] theorem State.csnHigh_slots (s : State) : (s.csnHigh).slots = s.slots := rfl
@[simp] theorem State.csnHigh_delivered (s : State) : (s.csnHigh).delivered = s.delivered := rfl
@[simp] theorem State.csnHigh_ticket (s : State) : (s.csnHigh).ticket = s.ticket := rfl
@[simp] theorem State.csnHigh_answers (s : State) : (s.csnHigh).answers = s.answers := rfl
@[simp] theorem State.csnHigh_gu (s : State) : (s.csnHigh).gu = s.gu := rfl
@[simp] theorem State.csnHigh_cfg (s : State) : (s.csnHigh).cfg = s.cfg := rfl
@[simp] theorem State.csnHigh_reply (s : State) : (s.csnHigh).reply = s.reply := rfl
@[simp] theorem State.csnHigh_report (s : State) : (s.csnHigh).report = s.report := rfl

/-! ### nextBit -/

@[simp] theorem State.nextBit_pending (s : State) : (s.nextBit).pending = s.pending := rfl
@[simp] theorem State.nextBit_inReset (s : State) : (s.nextBit).inReset = s.inReset := rfl
@[simp] theorem State.nextBit_port (s : State) : (s.nextBit).port = s.port := rfl
@[simp] theorem State.nextBit_lm (s : State) : (s.nextBit).lm = { s.lm with sampled := false } := rfl
@[simp] theorem State.nextBit_fr (s : State) : (s.nextBit).fr = s.fr := rfl
@[simp] theorem State.nextBit_tu (s : State) : (s.nextBit).tu = { s.tu with lout := s.tu.nextLevel } := rfl
@[simp] theorem State.nextBit_mu (s : State) : (s.nextBit).mu = s.mu := rfl
@[simp] theorem State.nextBit_peers (s : State) : (s.nextBit).peers = s.peers := rfl
@[simp] theorem State.nextBit_slots (s : State) : (s.nextBit).slots = s.slots := rfl
@[simp] theorem State.nextBit_delivered (s : State) : (s.nextBit).delivered = s.delivered := rfl
@[simp] theorem State.nextBit_ticket (s : State) : (s.nextBit).ticket = s.ticket := rfl
@[simp] theorem State.nextBit_answers (s : State) : (s.nextBit).answers = s.answers := rfl
@[simp] theorem State.nextBit_gu (s : State) : (s.nextBit).gu = s.gu := rfl
@[simp] theorem State.nextBit_cfg (s : State) : (s.nextBit).cfg = s.cfg := rfl
@[simp] theorem State.nextBit_reply (s : State) : (s.nextBit).reply = s.reply := rfl
@[simp] theorem State.nextBit_report (s : State) : (s.nextBit).report = s.report := rfl

/-! ### atClosingMark -/

@[simp] theorem State.atClosingMark_pending (s : State) : (s.atClosingMark).pending = s.pending := rfl
@[simp] theorem State.atClosingMark_inReset (s : State) : (s.atClosingMark).inReset = s.inReset := rfl
@[simp] theorem State.atClosingMark_port (s : State) : (s.atClosingMark).port = s.port := rfl
@[simp] theorem State.atClosingMark_lm (s : State) : (s.atClosingMark).lm = .atMark := rfl
@[simp] theorem State.atClosingMark_fr (s : State) : (s.atClosingMark).fr = .seeking := rfl
@[simp] theorem State.atClosingMark_tu (s : State) : (s.atClosingMark).tu = s.tu := rfl
@[simp] theorem State.atClosingMark_mu (s : State) : (s.atClosingMark).mu = s.mu := rfl
@[simp] theorem State.atClosingMark_peers (s : State) : (s.atClosingMark).peers = s.peers := rfl
@[simp] theorem State.atClosingMark_slots (s : State) : (s.atClosingMark).slots = s.slots := rfl
@[simp] theorem State.atClosingMark_delivered (s : State) : (s.atClosingMark).delivered = s.delivered := rfl
@[simp] theorem State.atClosingMark_ticket (s : State) : (s.atClosingMark).ticket = s.ticket := rfl
@[simp] theorem State.atClosingMark_answers (s : State) : (s.atClosingMark).answers = s.answers := rfl
@[simp] theorem State.atClosingMark_gu (s : State) : (s.atClosingMark).gu = s.gu := rfl
@[simp] theorem State.atClosingMark_cfg (s : State) : (s.atClosingMark).cfg = s.cfg := rfl
@[simp] theorem State.atClosingMark_reply (s : State) : (s.atClosingMark).reply = s.reply := rfl
@[simp] theorem State.atClosingMark_report (s : State) : (s.atClosingMark).report = s.report := rfl

/-! ### Reading back -/

@[simp] theorem State.peer_withPeer_same (s : State) (p : StationId) (e : PeerEntry) : (s.withPeer p e).peer p = e := by
  simp [State.peer]

theorem State.peer_withPeer_ne (s : State) {p q : StationId} (e : PeerEntry) (h : q ≠ p) :
    (s.withPeer p e).peer q = s.peer q := by
  simp only [State.peer, State.withPeer_peers]
  exact Vector.getElem_set_ne _ _ fun h' => h (Fin.ext h'.symm)

/-- A peer entry read after a write: the entry written at its own number, and every other entry as before. -/
theorem State.peer_withPeer (s : State) (p q : StationId) (e : PeerEntry) :
    (s.withPeer p e).peer q = if q = p then e else s.peer q := by
  split
  · next h => subst h; simp
  · next h => exact s.peer_withPeer_ne e h

theorem State.peer_withTx (s : State) (p q : StationId) (x : Option TxSession) :
    (s.withTx p x).peer q = if q = p then { s.peer p with tx := x } else s.peer q := s.peer_withPeer p q _

theorem State.peer_withRx (s : State) (p q : StationId) (x : Option Seq) :
    (s.withRx p x).peer q = if q = p then { s.peer p with rx := x } else s.peer q := s.peer_withPeer p q _

theorem State.peer_withLastGroup (s : State) (p q : StationId) (x : Option Seq) :
    (s.withLastGroup p x).peer q = if q = p then { s.peer p with lastGroup := x } else s.peer q := s.peer_withPeer p q _

theorem State.peer_withPresence (s : State) (p q : StationId) (pr : Presence) (gs : GroupSet) (n : Nat) :
    (s.withPresence p pr gs n).peer q =
      if q = p then { s.peer p with presence := pr, groups := gs, silence := n } else s.peer q := s.peer_withPeer p q _

@[simp] theorem State.slot_withSlot_same (s : State) (k : SlotId) (v : Slot) : (s.withSlot k v).slot k = v := by
  simp [State.slot]

theorem State.slot_withSlot_ne (s : State) {k j : SlotId} (v : Slot) (h : j ≠ k) : (s.withSlot k v).slot j = s.slot j := by
  simp only [State.slot, State.withSlot_slots]
  exact Vector.getElem_set_ne _ _ fun h' => h (Fin.ext h'.symm)

/-- A slot read after a write: the value written at its own number, and every other slot as before. -/
theorem State.slot_withSlot (s : State) (k j : SlotId) (v : Slot) :
    (s.withSlot k v).slot j = if j = k then v else s.slot j := by
  split
  · next h => subst h; simp
  · next h => exact s.slot_withSlot_ne v h

/-- A slot is read from the slots alone. -/
theorem State.slot_congr {s t : State} (h : t.slots = s.slots) (k : SlotId) : t.slot k = s.slot k := by
  simp only [State.slot, h]

/-- A peer entry is read from the peer table alone. -/
theorem State.peer_congr {s t : State} (h : t.peers = s.peers) (p : StationId) : t.peer p = s.peer p := by
  simp only [State.peer, h]

@[simp] theorem State.slot_withPeer (s : State) (p : StationId) (e : PeerEntry) (j : SlotId) : (s.withPeer p e).slot j = s.slot j := rfl
@[simp] theorem State.slot_withTx (s : State) (p : StationId) (x : Option TxSession) (j : SlotId) : (s.withTx p x).slot j = s.slot j := rfl
@[simp] theorem State.slot_withRx (s : State) (p : StationId) (x : Option Seq) (j : SlotId) : (s.withRx p x).slot j = s.slot j := rfl
@[simp] theorem State.slot_withLastGroup (s : State) (p : StationId) (x : Option Seq) (j : SlotId) : (s.withLastGroup p x).slot j = s.slot j := rfl
@[simp] theorem State.slot_withPresence (s : State) (p : StationId) (pr : Presence) (gs : GroupSet) (n : Nat) (j : SlotId) : (s.withPresence p pr gs n).slot j = s.slot j := rfl
@[simp] theorem State.peer_withSlot (s : State) (k : SlotId) (v : Slot) (q : StationId) : (s.withSlot k v).peer q = s.peer q := rfl
@[simp] theorem State.peer_raise (s : State) (n : NoticeKind) (p : Option StationId) (q : StationId) : (s.raise n p).peer q = s.peer q := rfl
@[simp] theorem State.slot_raise (s : State) (n : NoticeKind) (p : Option StationId) (j : SlotId) : (s.raise n p).slot j = s.slot j := rfl
@[simp] theorem State.peer_withLane (s : State) (l : Lane) (q : StationId) : (s.withLane l).peer q = s.peer q := rfl
@[simp] theorem State.slot_withLane (s : State) (l : Lane) (j : SlotId) : (s.withLane l).slot j = s.slot j := rfl
@[simp] theorem State.peer_replyWith (s : State) (tag code : Byte) (r : Result) (d : List Byte) (q : StationId) : (s.replyWith tag code r d).peer q = s.peer q := rfl
@[simp] theorem State.slot_replyWith (s : State) (tag code : Byte) (r : Result) (d : List Byte) (j : SlotId) : (s.replyWith tag code r d).slot j = s.slot j := rfl
@[simp] theorem State.peer_csnHigh (s : State) (q : StationId) : (s.csnHigh).peer q = s.peer q := rfl
@[simp] theorem State.slot_csnHigh (s : State) (j : SlotId) : (s.csnHigh).slot j = s.slot j := rfl
@[simp] theorem State.peer_nextBit (s : State) (q : StationId) : (s.nextBit).peer q = s.peer q := rfl
@[simp] theorem State.slot_nextBit (s : State) (j : SlotId) : (s.nextBit).slot j = s.slot j := rfl
@[simp] theorem State.peer_atClosingMark (s : State) (q : StationId) : (s.atClosingMark).peer q = s.peer q := rfl
@[simp] theorem State.slot_atClosingMark (s : State) (j : SlotId) : (s.atClosingMark).slot j = s.slot j := rfl

end Sys2Proof.Machine
end

