-- ==== Sys2Proof/Laws/Ops.lean ====
section
/-!
SUPPORT. What each operation of Machine/Ops.lean can do: the fields it leaves alone, the slots, the report list and the answer queue.
-/
namespace Sys2Proof.Machine

open Sys2Proof

/-- An outcome set (R92). It changes no field but slots, report. -/
@[simp] theorem State.setOutcome_keeps (s : State) (k : SlotId) (o : ParcelOutcome) :
    (s.setOutcome k o).pending = s.pending ∧ (s.setOutcome k o).inReset = s.inReset ∧ (s.setOutcome k o).port = s.port ∧
    (s.setOutcome k o).lm = s.lm ∧ (s.setOutcome k o).fr = s.fr ∧ (s.setOutcome k o).tu = s.tu ∧
    (s.setOutcome k o).mu = s.mu ∧ (s.setOutcome k o).peers = s.peers ∧ (s.setOutcome k o).delivered = s.delivered ∧
    (s.setOutcome k o).ticket = s.ticket ∧ (s.setOutcome k o).answers = s.answers ∧ (s.setOutcome k o).gu = s.gu ∧
    (s.setOutcome k o).cfg = s.cfg ∧ (s.setOutcome k o).reply = s.reply := by
  unfold State.setOutcome
  repeat' split
  all_goals simp

/-- Outcomes set for a list of slots (R181). It changes no field but slots, report. -/
@[simp] theorem State.setOutcomes_keeps (s : State) (ks : List SlotId) (o : SlotId → ParcelOutcome) :
    (s.setOutcomes ks o).pending = s.pending ∧ (s.setOutcomes ks o).inReset = s.inReset ∧ (s.setOutcomes ks o).port = s.port ∧
    (s.setOutcomes ks o).lm = s.lm ∧ (s.setOutcomes ks o).fr = s.fr ∧ (s.setOutcomes ks o).tu = s.tu ∧
    (s.setOutcomes ks o).mu = s.mu ∧ (s.setOutcomes ks o).peers = s.peers ∧ (s.setOutcomes ks o).delivered = s.delivered ∧
    (s.setOutcomes ks o).ticket = s.ticket ∧ (s.setOutcomes ks o).answers = s.answers ∧ (s.setOutcomes ks o).gu = s.gu ∧
    (s.setOutcomes ks o).cfg = s.cfg ∧ (s.setOutcomes ks o).reply = s.reply := by
  induction ks generalizing s with
  | nil => simp [State.setOutcomes]
  | cons k ks ih => simpa [State.setOutcomes] using ih (s.setOutcome k (o k))

/-- A slot move (R91). It changes no field but slots. -/
@[simp] theorem State.toInFlight_keeps (s : State) (k : SlotId) :
    (s.toInFlight k).pending = s.pending ∧ (s.toInFlight k).inReset = s.inReset ∧ (s.toInFlight k).port = s.port ∧
    (s.toInFlight k).lm = s.lm ∧ (s.toInFlight k).fr = s.fr ∧ (s.toInFlight k).tu = s.tu ∧ (s.toInFlight k).mu = s.mu ∧
    (s.toInFlight k).peers = s.peers ∧ (s.toInFlight k).delivered = s.delivered ∧ (s.toInFlight k).ticket = s.ticket ∧
    (s.toInFlight k).answers = s.answers ∧ (s.toInFlight k).gu = s.gu ∧ (s.toInFlight k).cfg = s.cfg ∧
    (s.toInFlight k).reply = s.reply ∧ (s.toInFlight k).report = s.report := by
  unfold State.toInFlight
  repeat' split
  all_goals simp

/-- A slot move (R91). It changes no field but slots. -/
@[simp] theorem State.toWaiting_keeps (s : State) (k : SlotId) :
    (s.toWaiting k).pending = s.pending ∧ (s.toWaiting k).inReset = s.inReset ∧ (s.toWaiting k).port = s.port ∧
    (s.toWaiting k).lm = s.lm ∧ (s.toWaiting k).fr = s.fr ∧ (s.toWaiting k).tu = s.tu ∧ (s.toWaiting k).mu = s.mu ∧
    (s.toWaiting k).peers = s.peers ∧ (s.toWaiting k).delivered = s.delivered ∧ (s.toWaiting k).ticket = s.ticket ∧
    (s.toWaiting k).answers = s.answers ∧ (s.toWaiting k).gu = s.gu ∧ (s.toWaiting k).cfg = s.cfg ∧
    (s.toWaiting k).reply = s.reply ∧ (s.toWaiting k).report = s.report := by
  unfold State.toWaiting
  repeat' split
  all_goals simp

/-- A slot move (R91). It changes no field but slots. -/
@[simp] theorem State.markSent_keeps (s : State) (k : SlotId) :
    (s.markSent k).pending = s.pending ∧ (s.markSent k).inReset = s.inReset ∧ (s.markSent k).port = s.port ∧
    (s.markSent k).lm = s.lm ∧ (s.markSent k).fr = s.fr ∧ (s.markSent k).tu = s.tu ∧ (s.markSent k).mu = s.mu ∧
    (s.markSent k).peers = s.peers ∧ (s.markSent k).delivered = s.delivered ∧ (s.markSent k).ticket = s.ticket ∧
    (s.markSent k).answers = s.answers ∧ (s.markSent k).gu = s.gu ∧ (s.markSent k).cfg = s.cfg ∧
    (s.markSent k).reply = s.reply ∧ (s.markSent k).report = s.report := by
  unfold State.markSent
  repeat' split
  all_goals simp

/-- A granted outbound request (R86). It changes no field but slots, ticket. -/
@[simp] theorem State.fillOutbound_keeps (s : State) (k : SlotId) (d : Dest) (u : Bool) (pl : List Byte) :
    (s.fillOutbound k d u pl).pending = s.pending ∧ (s.fillOutbound k d u pl).inReset = s.inReset ∧
    (s.fillOutbound k d u pl).port = s.port ∧ (s.fillOutbound k d u pl).lm = s.lm ∧ (s.fillOutbound k d u pl).fr = s.fr ∧
    (s.fillOutbound k d u pl).tu = s.tu ∧ (s.fillOutbound k d u pl).mu = s.mu ∧ (s.fillOutbound k d u pl).peers = s.peers ∧
    (s.fillOutbound k d u pl).delivered = s.delivered ∧ (s.fillOutbound k d u pl).answers = s.answers ∧
    (s.fillOutbound k d u pl).gu = s.gu ∧ (s.fillOutbound k d u pl).cfg = s.cfg ∧ (s.fillOutbound k d u pl).reply = s.reply ∧
    (s.fillOutbound k d u pl).report = s.report := by
  simp [State.fillOutbound]

/-- An acceptance (R89). It changes no field but slots, delivered. -/
@[simp] theorem State.accept_keeps (s : State) (k : SlotId) (p : StationId) (og : Origin) (pl : List Byte) :
    (s.accept k p og pl).pending = s.pending ∧ (s.accept k p og pl).inReset = s.inReset ∧ (s.accept k p og pl).port = s.port ∧
    (s.accept k p og pl).lm = s.lm ∧ (s.accept k p og pl).fr = s.fr ∧ (s.accept k p og pl).tu = s.tu ∧
    (s.accept k p og pl).mu = s.mu ∧ (s.accept k p og pl).peers = s.peers ∧ (s.accept k p og pl).ticket = s.ticket ∧
    (s.accept k p og pl).answers = s.answers ∧ (s.accept k p og pl).gu = s.gu ∧ (s.accept k p og pl).cfg = s.cfg ∧
    (s.accept k p og pl).reply = s.reply ∧ (s.accept k p og pl).report = s.report := by
  simp [State.accept]

/-- An answer placed or given up (R126, R137). It changes no field but answers. -/
@[simp] theorem State.answer_keeps (s : State) (p : StationId) (x : Subject) (c : AnswerCode) (n : Seq) :
    (s.answer p x c n).pending = s.pending ∧ (s.answer p x c n).inReset = s.inReset ∧ (s.answer p x c n).port = s.port ∧
    (s.answer p x c n).lm = s.lm ∧ (s.answer p x c n).fr = s.fr ∧ (s.answer p x c n).tu = s.tu ∧
    (s.answer p x c n).mu = s.mu ∧ (s.answer p x c n).peers = s.peers ∧ (s.answer p x c n).slots = s.slots ∧
    (s.answer p x c n).delivered = s.delivered ∧ (s.answer p x c n).ticket = s.ticket ∧ (s.answer p x c n).gu = s.gu ∧
    (s.answer p x c n).cfg = s.cfg ∧ (s.answer p x c n).reply = s.reply ∧ (s.answer p x c n).report = s.report := by
  unfold State.answer
  repeat' split
  all_goals simp

/-- The end of an attempt without a result (R40). It changes no field but tu. -/
@[simp] theorem State.abortAttempt_keeps (s : State) :
    (s.abortAttempt).pending = s.pending ∧ (s.abortAttempt).inReset = s.inReset ∧ (s.abortAttempt).port = s.port ∧
    (s.abortAttempt).lm = s.lm ∧ (s.abortAttempt).fr = s.fr ∧ (s.abortAttempt).mu = s.mu ∧ (s.abortAttempt).peers = s.peers ∧
    (s.abortAttempt).slots = s.slots ∧ (s.abortAttempt).delivered = s.delivered ∧ (s.abortAttempt).ticket = s.ticket ∧
    (s.abortAttempt).answers = s.answers ∧ (s.abortAttempt).gu = s.gu ∧ (s.abortAttempt).cfg = s.cfg ∧
    (s.abortAttempt).reply = s.reply ∧ (s.abortAttempt).report = s.report := by
  unfold State.abortAttempt
  repeat' split
  all_goals simp

/-- A change of station state (R40). It changes no field but tu, mu. -/
@[simp] theorem State.become_keeps (s : State) (st : StationState) :
    (s.become st).pending = s.pending ∧ (s.become st).inReset = s.inReset ∧ (s.become st).port = s.port ∧
    (s.become st).lm = s.lm ∧ (s.become st).fr = s.fr ∧ (s.become st).peers = s.peers ∧ (s.become st).slots = s.slots ∧
    (s.become st).delivered = s.delivered ∧ (s.become st).ticket = s.ticket ∧ (s.become st).answers = s.answers ∧
    (s.become st).gu = s.gu ∧ (s.become st).cfg = s.cfg ∧ (s.become st).reply = s.reply ∧ (s.become st).report = s.report := by
  unfold State.become
  dsimp only
  split <;> simp

/-- The station state after a change, and the rest of the Membership Unit's record, which it leaves alone. -/
@[simp] theorem State.become_mu (s : State) (st : StationState) : (s.become st).mu = { s.mu with station := st } := by
  unfold State.become
  dsimp only
  split
  · rfl
  · unfold State.abortAttempt; split <;> rfl

/-- The Transmit Unit after a change of station state: an attempt ends where the new state may not drive the line (R40). -/
theorem State.become_tu (s : State) (st : StationState) :
    (s.become st).tu =
      if st.mayDrive = true ∨ s.tu.state = .wait then s.tu else { s.tu.toWait with lout := recessive } := by
  unfold State.become State.abortAttempt
  cases st.mayDrive <;> simp
  split <;> rfl

/-! ### Slots -/

/-- What setting an outcome does to the slots: a WAITING or IN-FLIGHT slot `k` becomes DONE, and no other slot changes (R92). -/
theorem State.slot_setOutcome (s : State) (k j : SlotId) (o : ParcelOutcome) :
    (s.setOutcome k o).slot j =
      if j = k then
        (match s.slot k with
        | .waiting c => .done c o
        | .inFlight c => .done c o
        | v => v)
      else s.slot j := by
  unfold State.setOutcome
  by_cases h : j = k
  · subst h
    cases hv : s.slot j <;> simp [State.slot, State.withSlot]
    all_goals simpa [State.slot] using hv
  · cases s.slot k <;> simp [h]
    all_goals exact s.slot_withSlot_ne _ h

/-- The report list after an outcome is set: one entry more for a slot that was WAITING or IN-FLIGHT (R182). -/
theorem State.report_setOutcome (s : State) (k : SlotId) (o : ParcelOutcome) :
    (s.setOutcome k o).report =
      match s.slot k with
      | .waiting _ => s.report ++ [.outcome k]
      | .inFlight _ => s.report ++ [.outcome k]
      | _ => s.report := by
  unfold State.setOutcome
  cases s.slot k <;> rfl

theorem State.setOutcomes_nil (s : State) (o : SlotId → ParcelOutcome) : s.setOutcomes [] o = s := rfl

theorem State.setOutcomes_cons (s : State) (k : SlotId) (ks : List SlotId) (o : SlotId → ParcelOutcome) :
    s.setOutcomes (k :: ks) o = (s.setOutcome k (o k)).setOutcomes ks o := rfl

/-- What a slot move to IN-FLIGHT does: a WAITING slot `k` becomes IN-FLIGHT with the sent-once flag clear (R91). -/
theorem State.slot_toInFlight (s : State) (k j : SlotId) :
    (s.toInFlight k).slot j =
      if j = k then
        (match s.slot k with
        | .waiting c => .inFlight { c with sentOnce := false }
        | v => v)
      else s.slot j := by
  unfold State.toInFlight
  by_cases h : j = k
  · subst h
    cases hv : s.slot j <;> simp [hv]
  · cases s.slot k <;> simp [h]
    all_goals exact s.slot_withSlot_ne _ h

/-- What a return to waiting does: an IN-FLIGHT slot `k` becomes WAITING with the sent-once flag clear (R91, R122). -/
theorem State.slot_toWaiting (s : State) (k j : SlotId) :
    (s.toWaiting k).slot j =
      if j = k then
        (match s.slot k with
        | .inFlight c => .waiting { c with sentOnce := false }
        | v => v)
      else s.slot j := by
  unfold State.toWaiting
  by_cases h : j = k
  · subst h
    cases hv : s.slot j <;> simp [hv]
  · cases s.slot k <;> simp [h]
    all_goals exact s.slot_withSlot_ne _ h

/-- What marking as sent does: an IN-FLIGHT slot `k` gets its sent-once flag set (R91, R110). -/
theorem State.slot_markSent (s : State) (k j : SlotId) :
    (s.markSent k).slot j =
      if j = k then
        (match s.slot k with
        | .inFlight c => .inFlight { c with sentOnce := true }
        | v => v)
      else s.slot j := by
  unfold State.markSent
  by_cases h : j = k
  · subst h
    cases hv : s.slot j <;> simp [hv]
  · cases s.slot k <;> simp [h]
    all_goals exact s.slot_withSlot_ne _ h

/-- A granted request fills slot `k` with a WAITING parcel that carries the counter's ticket (R86). -/
theorem State.slot_fillOutbound (s : State) (k j : SlotId) (d : Dest) (u : Bool) (pl : List Byte) :
    (s.fillOutbound k d u pl).slot j = if j = k then .waiting ⟨s.ticket, d, u, pl, false⟩ else s.slot j :=
  s.slot_withSlot k j _

/-- An acceptance fills slot `k` with a DELIVERED parcel (R89). -/
theorem State.slot_accept (s : State) (k j : SlotId) (p : StationId) (og : Origin) (pl : List Byte) :
    (s.accept k p og pl).slot j = if j = k then .delivered p og pl else s.slot j :=
  s.slot_withSlot k j _

/-- The slot that an allocation takes is FREE, and every lower one is not (R86, R89). -/
theorem State.freeSlot_spec {s : State} {k : SlotId} (h : s.freeSlot = some k) :
    s.slot k = .free ∧ ∀ j, j < k → s.slot j ≠ .free := by
  unfold State.freeSlot allSlots at h
  rw [List.find?_eq_some_iff_getElem] at h
  obtain ⟨h1, i, hi, h2, h3⟩ := h
  refine ⟨?_, fun j hj hf => ?_⟩
  · cases hv : s.slot k <;> simp [hv, Slot.isFree] at h1 ⊢
  · simp only [List.getElem_finRange] at h2 h3
    have hk : k.val = i := by rw [← h2]; rfl
    have := h3 j.val (by rw [← hk]; exact hj)
    simp [hf, Slot.isFree] at this

/-- No slot is allocated only when none is FREE. -/
theorem State.freeSlot_none {s : State} (h : s.freeSlot = none) (k : SlotId) : s.slot k ≠ .free := by
  unfold State.freeSlot allSlots at h
  rw [List.find?_eq_none] at h
  intro hf
  exact h k (List.mem_finRange k) (by simp [hf, Slot.isFree])

/-! ### The report list -/

@[simp] theorem ReportEntry.isNotice_notice (n : NoticeKind) (p : Option StationId) (b : Bool) :
    (ReportEntry.notice n p b).isNotice = true := rfl

@[simp] theorem ReportEntry.isNotice_outcome (k : SlotId) : (ReportEntry.outcome k).isNotice = false := rfl

/-- A raised notice leaves at most 16 notices where at most 16 stood (R185). -/
theorem noticeCount_reportWithNotice (l : List ReportEntry) (n : NoticeKind) (p : Option StationId)
    (h : noticeCount l ≤ 16) : noticeCount (reportWithNotice l n p) ≤ 16 := by
  unfold reportWithNotice noticeCount Config.noticeCap at *
  split
  · simp; omega
  · next hge =>
    obtain ⟨a, ha, hn⟩ := List.countP_pos_iff.mp (show 0 < l.countP ReportEntry.isNotice by omega)
    obtain ⟨a', l1, l2, -, h2, hl, he⟩ := List.exists_of_eraseP ha hn
    rw [hl, List.countP_append, List.countP_cons_of_pos h2] at h
    rw [he, List.countP_append, List.countP_append, List.countP_singleton]
    simp; omega

/-- A raised notice leaves the outcome entries as they stand, in their order (R185). -/
theorem outcomes_reportWithNotice (l : List ReportEntry) (n : NoticeKind) (p : Option StationId) :
    (reportWithNotice l n p).filter (fun e => !e.isNotice) = l.filter fun e => !e.isNotice := by
  unfold reportWithNotice
  split
  · simp
  · by_cases h : ∃ a ∈ l, a.isNotice = true
    · obtain ⟨a, ha, hn⟩ := h
      obtain ⟨a', l1, l2, -, h2, hl, he⟩ := List.exists_of_eraseP ha hn
      rw [he, hl]
      simp [h2]
    · rw [List.eraseP_of_forall_not (by simpa using h)]
      simp

/-! ### The answer queue -/

/-- Placing an answer keeps the bound of R136 on the length, when the answer has room. -/
theorem State.answer_length (s : State) (p : StationId) (x : Subject) (c : AnswerCode) (n : Seq)
    (h : s.answers.length ≤ Config.answerCap) : (s.answer p x c n).answers.length ≤ Config.answerCap := by
  unfold State.answer placeInQueue
  split
  · next hr =>
    dsimp only
    split
    · simpa using h
    · next hw => simp [State.answerRoom, hw, Config.answerCap] at hr ⊢; omega
  · exact h

/-! ## The SPI port -/

@[simp] theorem bytesOf_length (n : Nat) (bits : List Bool) : (bytesOf n bits).length = n := by
  induction n generalizing bits with
  | zero => rfl
  | succ n ih => simp [bytesOf, ih]

/-- Only whole bytes count (R160). -/
@[simp] theorem sdiBytes_length (bits : List Level) : (sdiBytes bits).length = bits.length / 8 := bytesOf_length _ _

end Sys2Proof.Machine
end

