-- ==== Sys2Proof/Laws/Units.lean ====
section
/-!
SUPPORT. What each operation of the Group Unit, the Session Unit and the Membership Unit leaves alone: the fields of the state that
no rule of its block changes.
-/
namespace Sys2Proof.Machine

open Sys2Proof

/-- A load that makes the lane BUSY (R146). It changes no field but slots, gu. -/
@[simp] theorem State.loadLane_keeps (s : State) (k : SlotId) (r : List SlotId) :
    (s.loadLane k r).pending = s.pending ∧ (s.loadLane k r).inReset = s.inReset ∧ (s.loadLane k r).port = s.port ∧
    (s.loadLane k r).lm = s.lm ∧ (s.loadLane k r).fr = s.fr ∧ (s.loadLane k r).tu = s.tu ∧ (s.loadLane k r).mu = s.mu ∧
    (s.loadLane k r).peers = s.peers ∧ (s.loadLane k r).delivered = s.delivered ∧ (s.loadLane k r).ticket = s.ticket ∧
    (s.loadLane k r).answers = s.answers ∧ (s.loadLane k r).cfg = s.cfg ∧ (s.loadLane k r).reply = s.reply ∧
    (s.loadLane k r).report = s.report := by
  simp [State.loadLane]

/-- The load over a waiting list (R146). It changes no field but slots, report, gu. -/
@[simp] theorem State.loadFrom_keeps (s : State) (l : List SlotId) :
    (s.loadFrom l).pending = s.pending ∧ (s.loadFrom l).inReset = s.inReset ∧ (s.loadFrom l).port = s.port ∧
    (s.loadFrom l).lm = s.lm ∧ (s.loadFrom l).fr = s.fr ∧ (s.loadFrom l).tu = s.tu ∧ (s.loadFrom l).mu = s.mu ∧
    (s.loadFrom l).peers = s.peers ∧ (s.loadFrom l).delivered = s.delivered ∧ (s.loadFrom l).ticket = s.ticket ∧
    (s.loadFrom l).answers = s.answers ∧ (s.loadFrom l).cfg = s.cfg ∧ (s.loadFrom l).reply = s.reply := by
  induction l generalizing s with
  | nil => simp [State.loadFrom]
  | cons k ks ih =>
    unfold State.loadFrom
    split
    · simp [ih]
    · simp

/-- The load (R146). It changes no field but slots, report, gu. -/
@[simp] theorem State.load_keeps (s : State) :
    (s.load).pending = s.pending ∧ (s.load).inReset = s.inReset ∧ (s.load).port = s.port ∧ (s.load).lm = s.lm ∧
    (s.load).fr = s.fr ∧ (s.load).tu = s.tu ∧ (s.load).mu = s.mu ∧ (s.load).peers = s.peers ∧
    (s.load).delivered = s.delivered ∧ (s.load).ticket = s.ticket ∧ (s.load).answers = s.answers ∧ (s.load).cfg = s.cfg ∧
    (s.load).reply = s.reply := by
  unfold State.load
  repeat' split
  all_goals simp

/-- A group parcel placed on the waiting list (R144). It changes no field but slots, report, gu. -/
@[simp] theorem State.queueGroup_keeps (s : State) (k : SlotId) (u : Bool) :
    (s.queueGroup k u).pending = s.pending ∧ (s.queueGroup k u).inReset = s.inReset ∧ (s.queueGroup k u).port = s.port ∧
    (s.queueGroup k u).lm = s.lm ∧ (s.queueGroup k u).fr = s.fr ∧ (s.queueGroup k u).tu = s.tu ∧
    (s.queueGroup k u).mu = s.mu ∧ (s.queueGroup k u).peers = s.peers ∧ (s.queueGroup k u).delivered = s.delivered ∧
    (s.queueGroup k u).ticket = s.ticket ∧ (s.queueGroup k u).answers = s.answers ∧ (s.queueGroup k u).cfg = s.cfg ∧
    (s.queueGroup k u).reply = s.reply := by
  simp [State.queueGroup]

/-- The end of the lane's parcel (R151, R153, R155). It changes no field but slots, report, gu. -/
@[simp] theorem State.endLane_keeps (s : State) (l : Lane) (c : OutcomeCode) (x : Cause) :
    (s.endLane l c x).pending = s.pending ∧ (s.endLane l c x).inReset = s.inReset ∧ (s.endLane l c x).port = s.port ∧
    (s.endLane l c x).lm = s.lm ∧ (s.endLane l c x).fr = s.fr ∧ (s.endLane l c x).tu = s.tu ∧ (s.endLane l c x).mu = s.mu ∧
    (s.endLane l c x).peers = s.peers ∧ (s.endLane l c x).delivered = s.delivered ∧ (s.endLane l c x).ticket = s.ticket ∧
    (s.endLane l c x).answers = s.answers ∧ (s.endLane l c x).cfg = s.cfg ∧ (s.endLane l c x).reply = s.reply := by
  simp [State.endLane]

/-- The completion check (R151). It changes no field but slots, report, gu. -/
@[simp] theorem State.settleLane_keeps (s : State) (l : Lane) :
    (s.settleLane l).pending = s.pending ∧ (s.settleLane l).inReset = s.inReset ∧ (s.settleLane l).port = s.port ∧
    (s.settleLane l).lm = s.lm ∧ (s.settleLane l).fr = s.fr ∧ (s.settleLane l).tu = s.tu ∧ (s.settleLane l).mu = s.mu ∧
    (s.settleLane l).peers = s.peers ∧ (s.settleLane l).delivered = s.delivered ∧ (s.settleLane l).ticket = s.ticket ∧
    (s.settleLane l).answers = s.answers ∧ (s.settleLane l).cfg = s.cfg ∧ (s.settleLane l).reply = s.reply := by
  unfold State.settleLane
  repeat' split
  all_goals simp

/-- An ANSWER with subject GROUP (R150). It changes no field but slots, report, gu. -/
@[simp] theorem State.groupAnswer_keeps (s : State) (m : StationId) (c : AnswerCode) (n : Seq) :
    (s.groupAnswer m c n).pending = s.pending ∧ (s.groupAnswer m c n).inReset = s.inReset ∧
    (s.groupAnswer m c n).port = s.port ∧ (s.groupAnswer m c n).lm = s.lm ∧ (s.groupAnswer m c n).fr = s.fr ∧
    (s.groupAnswer m c n).tu = s.tu ∧ (s.groupAnswer m c n).mu = s.mu ∧ (s.groupAnswer m c n).peers = s.peers ∧
    (s.groupAnswer m c n).delivered = s.delivered ∧ (s.groupAnswer m c n).ticket = s.ticket ∧
    (s.groupAnswer m c n).answers = s.answers ∧ (s.groupAnswer m c n).cfg = s.cfg ∧ (s.groupAnswer m c n).reply = s.reply := by
  unfold State.groupAnswer
  repeat' split
  all_goals simp

/-- A member event at the lane (R152). It changes no field but slots, report, gu. -/
@[simp] theorem State.memberLost_keeps (s : State) (m : StationId) :
    (s.memberLost m).pending = s.pending ∧ (s.memberLost m).inReset = s.inReset ∧ (s.memberLost m).port = s.port ∧
    (s.memberLost m).lm = s.lm ∧ (s.memberLost m).fr = s.fr ∧ (s.memberLost m).tu = s.tu ∧ (s.memberLost m).mu = s.mu ∧
    (s.memberLost m).peers = s.peers ∧ (s.memberLost m).delivered = s.delivered ∧ (s.memberLost m).ticket = s.ticket ∧
    (s.memberLost m).answers = s.answers ∧ (s.memberLost m).cfg = s.cfg ∧ (s.memberLost m).reply = s.reply := by
  unfold State.memberLost
  repeat' split
  all_goals simp

/-- The lane's retry step (R153). It changes no field but slots, report, gu. -/
@[simp] theorem State.laneRetry_keeps (s : State) (l : Lane) :
    (s.laneRetry l).pending = s.pending ∧ (s.laneRetry l).inReset = s.inReset ∧ (s.laneRetry l).port = s.port ∧
    (s.laneRetry l).lm = s.lm ∧ (s.laneRetry l).fr = s.fr ∧ (s.laneRetry l).tu = s.tu ∧ (s.laneRetry l).mu = s.mu ∧
    (s.laneRetry l).peers = s.peers ∧ (s.laneRetry l).delivered = s.delivered ∧ (s.laneRetry l).ticket = s.ticket ∧
    (s.laneRetry l).answers = s.answers ∧ (s.laneRetry l).cfg = s.cfg ∧ (s.laneRetry l).reply = s.reply := by
  unfold State.laneRetry
  repeat' split
  all_goals simp

/-- The result SENT at the lane (R149). It changes no field but gu. -/
@[simp] theorem State.laneSent_keeps (s : State) (k : SlotId) (q : Seq) :
    (s.laneSent k q).pending = s.pending ∧ (s.laneSent k q).inReset = s.inReset ∧ (s.laneSent k q).port = s.port ∧
    (s.laneSent k q).lm = s.lm ∧ (s.laneSent k q).fr = s.fr ∧ (s.laneSent k q).tu = s.tu ∧ (s.laneSent k q).mu = s.mu ∧
    (s.laneSent k q).peers = s.peers ∧ (s.laneSent k q).slots = s.slots ∧ (s.laneSent k q).delivered = s.delivered ∧
    (s.laneSent k q).ticket = s.ticket ∧ (s.laneSent k q).answers = s.answers ∧ (s.laneSent k q).cfg = s.cfg ∧
    (s.laneSent k q).reply = s.reply ∧ (s.laneSent k q).report = s.report := by
  unfold State.laneSent
  repeat' split
  all_goals simp

/-- The peer-absent and peer-restart events at the Group Unit (R152, R157). It changes no field but slots, report, gu, peers. -/
@[simp] theorem State.groupPeerEvent_keeps (s : State) (p : StationId) :
    (s.groupPeerEvent p).pending = s.pending ∧ (s.groupPeerEvent p).inReset = s.inReset ∧ (s.groupPeerEvent p).port = s.port ∧
    (s.groupPeerEvent p).lm = s.lm ∧ (s.groupPeerEvent p).fr = s.fr ∧ (s.groupPeerEvent p).tu = s.tu ∧
    (s.groupPeerEvent p).mu = s.mu ∧ (s.groupPeerEvent p).delivered = s.delivered ∧ (s.groupPeerEvent p).ticket = s.ticket ∧
    (s.groupPeerEvent p).answers = s.answers ∧ (s.groupPeerEvent p).cfg = s.cfg ∧ (s.groupPeerEvent p).reply = s.reply := by
  simp [State.groupPeerEvent]

/-- Step 1 of the teardown at the Group Unit (R155). It changes no field but slots, report, gu. -/
@[simp] theorem State.teardownLane_keeps (s : State) (x : Cause) :
    (s.teardownLane x).pending = s.pending ∧ (s.teardownLane x).inReset = s.inReset ∧ (s.teardownLane x).port = s.port ∧
    (s.teardownLane x).lm = s.lm ∧ (s.teardownLane x).fr = s.fr ∧ (s.teardownLane x).tu = s.tu ∧
    (s.teardownLane x).mu = s.mu ∧ (s.teardownLane x).peers = s.peers ∧ (s.teardownLane x).delivered = s.delivered ∧
    (s.teardownLane x).ticket = s.ticket ∧ (s.teardownLane x).answers = s.answers ∧ (s.teardownLane x).cfg = s.cfg ∧
    (s.teardownLane x).reply = s.reply := by
  unfold State.teardownLane
  repeat' split
  all_goals simp

/-- A list of stations, each handled by an operation that leaves a field alone, leaves it alone. -/
theorem foldl_keeps {α β γ : Type} (get : α → β) (f : α → γ → α) (h : ∀ a c, get (f a c) = get a) (l : List γ) (a : α) :
    get (l.foldl f a) = get a := by
  induction l generalizing a with
  | nil => rfl
  | cons c l ih => rw [List.foldl_cons, ih, h]

/-- The station-teardown event at the Group Unit (R155). It changes no field but slots, report, gu, peers. -/
@[simp] theorem State.groupTeardown_keeps (s : State) (x : Cause) :
    (s.groupTeardown x).pending = s.pending ∧ (s.groupTeardown x).inReset = s.inReset ∧ (s.groupTeardown x).port = s.port ∧
    (s.groupTeardown x).lm = s.lm ∧ (s.groupTeardown x).fr = s.fr ∧ (s.groupTeardown x).tu = s.tu ∧
    (s.groupTeardown x).mu = s.mu ∧ (s.groupTeardown x).delivered = s.delivered ∧ (s.groupTeardown x).ticket = s.ticket ∧
    (s.groupTeardown x).answers = s.answers ∧ (s.groupTeardown x).cfg = s.cfg ∧ (s.groupTeardown x).reply = s.reply := by
  unfold State.groupTeardown
  dsimp only
  refine ⟨?_, ?_, ?_, ?_, ?_, ?_, ?_, ?_, ?_, ?_, ?_, ?_⟩ <;>
  · refine (foldl_keeps _ _ (fun _ _ => by rfl) _ _).trans ?_
    simp

/-- A GROUP frame at a member (R156). It changes no field but slots, delivered, peers, answers. -/
@[simp] theorem State.receiveGroup_keeps (s : State) (p : StationId) (g : GroupId) (q : Seq) (pl : List Byte) :
    (s.receiveGroup p g q pl).pending = s.pending ∧ (s.receiveGroup p g q pl).inReset = s.inReset ∧
    (s.receiveGroup p g q pl).port = s.port ∧ (s.receiveGroup p g q pl).lm = s.lm ∧ (s.receiveGroup p g q pl).fr = s.fr ∧
    (s.receiveGroup p g q pl).tu = s.tu ∧ (s.receiveGroup p g q pl).mu = s.mu ∧ (s.receiveGroup p g q pl).ticket = s.ticket ∧
    (s.receiveGroup p g q pl).gu = s.gu ∧ (s.receiveGroup p g q pl).cfg = s.cfg ∧ (s.receiveGroup p g q pl).reply = s.reply ∧
    (s.receiveGroup p g q pl).report = s.report := by
  unfold State.receiveGroup
  repeat' split
  all_goals simp

/-- A direct parcel placed in a session (R101). It changes no field but peers. -/
@[simp] theorem State.queueDirect_keeps (s : State) (p : StationId) (k : SlotId) (u : Bool) :
    (s.queueDirect p k u).pending = s.pending ∧ (s.queueDirect p k u).inReset = s.inReset ∧
    (s.queueDirect p k u).port = s.port ∧ (s.queueDirect p k u).lm = s.lm ∧ (s.queueDirect p k u).fr = s.fr ∧
    (s.queueDirect p k u).tu = s.tu ∧ (s.queueDirect p k u).mu = s.mu ∧ (s.queueDirect p k u).slots = s.slots ∧
    (s.queueDirect p k u).delivered = s.delivered ∧ (s.queueDirect p k u).ticket = s.ticket ∧
    (s.queueDirect p k u).answers = s.answers ∧ (s.queueDirect p k u).gu = s.gu ∧ (s.queueDirect p k u).cfg = s.cfg ∧
    (s.queueDirect p k u).reply = s.reply ∧ (s.queueDirect p k u).report = s.report := by
  unfold State.queueDirect
  repeat' split
  all_goals simp

/-- A CANCEL at a session (R103). It changes no field but peers. -/
@[simp] theorem State.dropWaiting_keeps (s : State) (p : StationId) (k : SlotId) :
    (s.dropWaiting p k).pending = s.pending ∧ (s.dropWaiting p k).inReset = s.inReset ∧ (s.dropWaiting p k).port = s.port ∧
    (s.dropWaiting p k).lm = s.lm ∧ (s.dropWaiting p k).fr = s.fr ∧ (s.dropWaiting p k).tu = s.tu ∧
    (s.dropWaiting p k).mu = s.mu ∧ (s.dropWaiting p k).slots = s.slots ∧ (s.dropWaiting p k).delivered = s.delivered ∧
    (s.dropWaiting p k).ticket = s.ticket ∧ (s.dropWaiting p k).answers = s.answers ∧ (s.dropWaiting p k).gu = s.gu ∧
    (s.dropWaiting p k).cfg = s.cfg ∧ (s.dropWaiting p k).reply = s.reply ∧ (s.dropWaiting p k).report = s.report := by
  unfold State.dropWaiting
  dsimp only
  repeat' split
  all_goals simp

/-- Slots returned to waiting one after another change nothing but the slots. -/
@[simp] theorem State.foldl_toWaiting_keeps (s : State) (l : List WindowEntry) :
    let t := l.foldl (fun s' e => s'.toWaiting e.slot) s
    t.pending = s.pending ∧ t.inReset = s.inReset ∧ t.port = s.port ∧ t.lm = s.lm ∧ t.fr = s.fr ∧ t.tu = s.tu ∧ t.mu = s.mu ∧
    t.peers = s.peers ∧ t.delivered = s.delivered ∧ t.ticket = s.ticket ∧ t.answers = s.answers ∧ t.gu = s.gu ∧
    t.cfg = s.cfg ∧ t.reply = s.reply ∧ t.report = s.report := by
  induction l generalizing s with
  | nil => simp
  | cons e l ih => simpa using ih (s.toWaiting e.slot)

/-- The outcomes of a window set one after another change nothing but the slots and the report list. -/
@[simp] theorem State.foldl_setOutcome_keeps (s : State) (l : List WindowEntry) (f : WindowEntry → ParcelOutcome) :
    let t := l.foldl (fun s' e => s'.setOutcome e.slot (f e)) s
    t.pending = s.pending ∧ t.inReset = s.inReset ∧ t.port = s.port ∧ t.lm = s.lm ∧ t.fr = s.fr ∧ t.tu = s.tu ∧ t.mu = s.mu ∧
    t.peers = s.peers ∧ t.delivered = s.delivered ∧ t.ticket = s.ticket ∧ t.answers = s.answers ∧ t.gu = s.gu ∧
    t.cfg = s.cfg ∧ t.reply = s.reply := by
  induction l generalizing s with
  | nil => simp
  | cons e l ih => simpa using ih (s.setOutcome e.slot (f e))

/-- The terminal break (R121). It changes no field but slots, report, peers. -/
@[simp] theorem State.terminalBreak_keeps (s : State) (p : StationId) (x : Cause) :
    (s.terminalBreak p x).pending = s.pending ∧ (s.terminalBreak p x).inReset = s.inReset ∧
    (s.terminalBreak p x).port = s.port ∧ (s.terminalBreak p x).lm = s.lm ∧ (s.terminalBreak p x).fr = s.fr ∧
    (s.terminalBreak p x).tu = s.tu ∧ (s.terminalBreak p x).mu = s.mu ∧ (s.terminalBreak p x).delivered = s.delivered ∧
    (s.terminalBreak p x).ticket = s.ticket ∧ (s.terminalBreak p x).answers = s.answers ∧ (s.terminalBreak p x).gu = s.gu ∧
    (s.terminalBreak p x).cfg = s.cfg ∧ (s.terminalBreak p x).reply = s.reply := by
  unfold State.terminalBreak
  dsimp only
  split <;> simp

/-- The reopening break (R122). It changes no field but slots, report, peers. -/
@[simp] theorem State.reopeningBreak_keeps (s : State) (p : StationId) (x : Cause) :
    (s.reopeningBreak p x).pending = s.pending ∧ (s.reopeningBreak p x).inReset = s.inReset ∧
    (s.reopeningBreak p x).port = s.port ∧ (s.reopeningBreak p x).lm = s.lm ∧ (s.reopeningBreak p x).fr = s.fr ∧
    (s.reopeningBreak p x).tu = s.tu ∧ (s.reopeningBreak p x).mu = s.mu ∧ (s.reopeningBreak p x).delivered = s.delivered ∧
    (s.reopeningBreak p x).ticket = s.ticket ∧ (s.reopeningBreak p x).answers = s.answers ∧ (s.reopeningBreak p x).gu = s.gu ∧
    (s.reopeningBreak p x).cfg = s.cfg ∧ (s.reopeningBreak p x).reply = s.reply := by
  unfold State.reopeningBreak
  dsimp only
  split <;> simp

/-- The retry step (R108). It changes no field but slots, report, peers. -/
@[simp] theorem State.retryStep_keeps (s : State) (p : StationId) (x : TxSession) (c : Cause) (go : TxSession → TxSession) :
    (s.retryStep p x c go).pending = s.pending ∧ (s.retryStep p x c go).inReset = s.inReset ∧
    (s.retryStep p x c go).port = s.port ∧ (s.retryStep p x c go).lm = s.lm ∧ (s.retryStep p x c go).fr = s.fr ∧
    (s.retryStep p x c go).tu = s.tu ∧ (s.retryStep p x c go).mu = s.mu ∧ (s.retryStep p x c go).delivered = s.delivered ∧
    (s.retryStep p x c go).ticket = s.ticket ∧ (s.retryStep p x c go).answers = s.answers ∧ (s.retryStep p x c go).gu = s.gu ∧
    (s.retryStep p x c go).cfg = s.cfg ∧ (s.retryStep p x c go).reply = s.reply := by
  unfold State.retryStep
  repeat' split
  all_goals simp

/-- An ANSWER with subject OPEN (R105, R106). It changes no field but slots, report, peers. -/
@[simp] theorem State.openAnswer_keeps (s : State) (p : StationId) (c : AnswerCode) (n : Seq) :
    (s.openAnswer p c n).pending = s.pending ∧ (s.openAnswer p c n).inReset = s.inReset ∧ (s.openAnswer p c n).port = s.port ∧
    (s.openAnswer p c n).lm = s.lm ∧ (s.openAnswer p c n).fr = s.fr ∧ (s.openAnswer p c n).tu = s.tu ∧
    (s.openAnswer p c n).mu = s.mu ∧ (s.openAnswer p c n).delivered = s.delivered ∧ (s.openAnswer p c n).ticket = s.ticket ∧
    (s.openAnswer p c n).answers = s.answers ∧ (s.openAnswer p c n).gu = s.gu ∧ (s.openAnswer p c n).cfg = s.cfg ∧
    (s.openAnswer p c n).reply = s.reply := by
  unfold State.openAnswer
  repeat' split
  all_goals simp

/-- The result of an OPEN attempt (R104). It changes no field but peers. -/
@[simp] theorem State.openResult_keeps (s : State) (p : StationId) (b : Bool) :
    (s.openResult p b).pending = s.pending ∧ (s.openResult p b).inReset = s.inReset ∧ (s.openResult p b).port = s.port ∧
    (s.openResult p b).lm = s.lm ∧ (s.openResult p b).fr = s.fr ∧ (s.openResult p b).tu = s.tu ∧
    (s.openResult p b).mu = s.mu ∧ (s.openResult p b).slots = s.slots ∧ (s.openResult p b).delivered = s.delivered ∧
    (s.openResult p b).ticket = s.ticket ∧ (s.openResult p b).answers = s.answers ∧ (s.openResult p b).gu = s.gu ∧
    (s.openResult p b).cfg = s.cfg ∧ (s.openResult p b).reply = s.reply ∧ (s.openResult p b).report = s.report := by
  unfold State.openResult
  repeat' split
  all_goals simp

/-- The result of an attempt with a window entry (R110, R111). It changes no field but slots, peers. -/
@[simp] theorem State.windowResult_keeps (s : State) (p : StationId) (q : Seq) (b : Bool) :
    (s.windowResult p q b).pending = s.pending ∧ (s.windowResult p q b).inReset = s.inReset ∧
    (s.windowResult p q b).port = s.port ∧ (s.windowResult p q b).lm = s.lm ∧ (s.windowResult p q b).fr = s.fr ∧
    (s.windowResult p q b).tu = s.tu ∧ (s.windowResult p q b).mu = s.mu ∧ (s.windowResult p q b).delivered = s.delivered ∧
    (s.windowResult p q b).ticket = s.ticket ∧ (s.windowResult p q b).answers = s.answers ∧ (s.windowResult p q b).gu = s.gu ∧
    (s.windowResult p q b).cfg = s.cfg ∧ (s.windowResult p q b).reply = s.reply ∧ (s.windowResult p q b).report = s.report := by
  unfold State.windowResult
  repeat' split
  all_goals simp

/-- TAKEN, GAP or HOLD after its removals (R113 to R115). It changes no field but slots, report, peers. -/
@[simp] theorem State.actOnAnswer_keeps (s : State) (p : StationId) (x : TxSession) (c : AnswerCode) (gone rest : List WindowEntry) :
    (s.actOnAnswer p x c gone rest).pending = s.pending ∧ (s.actOnAnswer p x c gone rest).inReset = s.inReset ∧
    (s.actOnAnswer p x c gone rest).port = s.port ∧ (s.actOnAnswer p x c gone rest).lm = s.lm ∧
    (s.actOnAnswer p x c gone rest).fr = s.fr ∧ (s.actOnAnswer p x c gone rest).tu = s.tu ∧
    (s.actOnAnswer p x c gone rest).mu = s.mu ∧ (s.actOnAnswer p x c gone rest).delivered = s.delivered ∧
    (s.actOnAnswer p x c gone rest).ticket = s.ticket ∧ (s.actOnAnswer p x c gone rest).answers = s.answers ∧
    (s.actOnAnswer p x c gone rest).gu = s.gu ∧ (s.actOnAnswer p x c gone rest).cfg = s.cfg ∧
    (s.actOnAnswer p x c gone rest).reply = s.reply := by
  unfold State.actOnAnswer
  repeat' split
  all_goals simp

/-- An ANSWER with subject DATA (R112, R117). It changes no field but slots, report, peers. -/
@[simp] theorem State.dataAnswer_keeps (s : State) (p : StationId) (c : AnswerCode) (n : Seq) :
    (s.dataAnswer p c n).pending = s.pending ∧ (s.dataAnswer p c n).inReset = s.inReset ∧ (s.dataAnswer p c n).port = s.port ∧
    (s.dataAnswer p c n).lm = s.lm ∧ (s.dataAnswer p c n).fr = s.fr ∧ (s.dataAnswer p c n).tu = s.tu ∧
    (s.dataAnswer p c n).mu = s.mu ∧ (s.dataAnswer p c n).delivered = s.delivered ∧ (s.dataAnswer p c n).ticket = s.ticket ∧
    (s.dataAnswer p c n).answers = s.answers ∧ (s.dataAnswer p c n).gu = s.gu ∧ (s.dataAnswer p c n).cfg = s.cfg ∧
    (s.dataAnswer p c n).reply = s.reply := by
  unfold State.dataAnswer
  dsimp only
  repeat' split
  all_goals simp

/-- The answer timer's expiry in OPENING (R107). It changes no field but slots, report, peers. -/
@[simp] theorem State.openTimerExpiry_keeps (s : State) (p : StationId) (x : TxSession) :
    (s.openTimerExpiry p x).pending = s.pending ∧ (s.openTimerExpiry p x).inReset = s.inReset ∧
    (s.openTimerExpiry p x).port = s.port ∧ (s.openTimerExpiry p x).lm = s.lm ∧ (s.openTimerExpiry p x).fr = s.fr ∧
    (s.openTimerExpiry p x).tu = s.tu ∧ (s.openTimerExpiry p x).mu = s.mu ∧ (s.openTimerExpiry p x).delivered = s.delivered ∧
    (s.openTimerExpiry p x).ticket = s.ticket ∧ (s.openTimerExpiry p x).answers = s.answers ∧
    (s.openTimerExpiry p x).gu = s.gu ∧ (s.openTimerExpiry p x).cfg = s.cfg ∧ (s.openTimerExpiry p x).reply = s.reply := by
  unfold State.openTimerExpiry
  dsimp only
  split <;> simp

/-- The answer timer's expiry in OPEN (R118). It changes no field but slots, report, peers. -/
@[simp] theorem State.dataTimerExpiry_keeps (s : State) (p : StationId) (x : TxSession) :
    (s.dataTimerExpiry p x).pending = s.pending ∧ (s.dataTimerExpiry p x).inReset = s.inReset ∧
    (s.dataTimerExpiry p x).port = s.port ∧ (s.dataTimerExpiry p x).lm = s.lm ∧ (s.dataTimerExpiry p x).fr = s.fr ∧
    (s.dataTimerExpiry p x).tu = s.tu ∧ (s.dataTimerExpiry p x).mu = s.mu ∧ (s.dataTimerExpiry p x).delivered = s.delivered ∧
    (s.dataTimerExpiry p x).ticket = s.ticket ∧ (s.dataTimerExpiry p x).answers = s.answers ∧
    (s.dataTimerExpiry p x).gu = s.gu ∧ (s.dataTimerExpiry p x).cfg = s.cfg ∧ (s.dataTimerExpiry p x).reply = s.reply := by
  simp [State.dataTimerExpiry]

/-- The peer-absent event at the Session Unit (R123). It changes no field but slots, report, peers. -/
@[simp] theorem State.sessionPeerAbsent_keeps (s : State) (p : StationId) (x : Cause) :
    (s.sessionPeerAbsent p x).pending = s.pending ∧ (s.sessionPeerAbsent p x).inReset = s.inReset ∧
    (s.sessionPeerAbsent p x).port = s.port ∧ (s.sessionPeerAbsent p x).lm = s.lm ∧ (s.sessionPeerAbsent p x).fr = s.fr ∧
    (s.sessionPeerAbsent p x).tu = s.tu ∧ (s.sessionPeerAbsent p x).mu = s.mu ∧
    (s.sessionPeerAbsent p x).delivered = s.delivered ∧ (s.sessionPeerAbsent p x).ticket = s.ticket ∧
    (s.sessionPeerAbsent p x).answers = s.answers ∧ (s.sessionPeerAbsent p x).gu = s.gu ∧
    (s.sessionPeerAbsent p x).cfg = s.cfg ∧ (s.sessionPeerAbsent p x).reply = s.reply := by
  simp [State.sessionPeerAbsent]

/-- The peer-restart event at the Session Unit (R123). It changes no field but slots, report, peers. -/
@[simp] theorem State.sessionPeerRestart_keeps (s : State) (p : StationId) :
    (s.sessionPeerRestart p).pending = s.pending ∧ (s.sessionPeerRestart p).inReset = s.inReset ∧
    (s.sessionPeerRestart p).port = s.port ∧ (s.sessionPeerRestart p).lm = s.lm ∧ (s.sessionPeerRestart p).fr = s.fr ∧
    (s.sessionPeerRestart p).tu = s.tu ∧ (s.sessionPeerRestart p).mu = s.mu ∧
    (s.sessionPeerRestart p).delivered = s.delivered ∧ (s.sessionPeerRestart p).ticket = s.ticket ∧
    (s.sessionPeerRestart p).answers = s.answers ∧ (s.sessionPeerRestart p).gu = s.gu ∧ (s.sessionPeerRestart p).cfg = s.cfg ∧
    (s.sessionPeerRestart p).reply = s.reply := by
  simp [State.sessionPeerRestart]

/-- The station-teardown event at the Session Unit (R123, R141). It changes no field but slots, report, peers, answers. -/
@[simp] theorem State.sessionTeardown_keeps (s : State) (x : Cause) :
    (s.sessionTeardown x).pending = s.pending ∧ (s.sessionTeardown x).inReset = s.inReset ∧
    (s.sessionTeardown x).port = s.port ∧ (s.sessionTeardown x).lm = s.lm ∧ (s.sessionTeardown x).fr = s.fr ∧
    (s.sessionTeardown x).tu = s.tu ∧ (s.sessionTeardown x).mu = s.mu ∧ (s.sessionTeardown x).delivered = s.delivered ∧
    (s.sessionTeardown x).ticket = s.ticket ∧ (s.sessionTeardown x).gu = s.gu ∧ (s.sessionTeardown x).cfg = s.cfg ∧
    (s.sessionTeardown x).reply = s.reply := by
  unfold State.sessionTeardown
  dsimp only
  refine ⟨?_, ?_, ?_, ?_, ?_, ?_, ?_, ?_, ?_, ?_, ?_, ?_⟩ <;>
  · refine (foldl_keeps _ _ (fun _ _ => by rfl) _ _).trans ?_
    exact foldl_keeps _ _ (fun _ _ => by simp) _ _

/-- An OPEN at the receiving side (R127, R128). It changes no field but peers, answers. -/
@[simp] theorem State.receiveOpen_keeps (s : State) (p : StationId) :
    (s.receiveOpen p).pending = s.pending ∧ (s.receiveOpen p).inReset = s.inReset ∧ (s.receiveOpen p).port = s.port ∧
    (s.receiveOpen p).lm = s.lm ∧ (s.receiveOpen p).fr = s.fr ∧ (s.receiveOpen p).tu = s.tu ∧ (s.receiveOpen p).mu = s.mu ∧
    (s.receiveOpen p).slots = s.slots ∧ (s.receiveOpen p).delivered = s.delivered ∧ (s.receiveOpen p).ticket = s.ticket ∧
    (s.receiveOpen p).gu = s.gu ∧ (s.receiveOpen p).cfg = s.cfg ∧ (s.receiveOpen p).reply = s.reply ∧
    (s.receiveOpen p).report = s.report := by
  unfold State.receiveOpen
  repeat' split
  all_goals simp

/-- A DATA frame at the receiving side (R130 to R134). It changes no field but slots, delivered, peers, answers. -/
@[simp] theorem State.receiveData_keeps (s : State) (p : StationId) (q : Seq) (pl : List Byte) :
    (s.receiveData p q pl).pending = s.pending ∧ (s.receiveData p q pl).inReset = s.inReset ∧
    (s.receiveData p q pl).port = s.port ∧ (s.receiveData p q pl).lm = s.lm ∧ (s.receiveData p q pl).fr = s.fr ∧
    (s.receiveData p q pl).tu = s.tu ∧ (s.receiveData p q pl).mu = s.mu ∧ (s.receiveData p q pl).ticket = s.ticket ∧
    (s.receiveData p q pl).gu = s.gu ∧ (s.receiveData p q pl).cfg = s.cfg ∧ (s.receiveData p q pl).reply = s.reply ∧
    (s.receiveData p q pl).report = s.report := by
  unfold State.receiveData
  repeat' split
  all_goals simp

/-- The loss or the leaving of a peer (R74). It changes no field but slots, report, peers, gu. -/
@[simp] theorem State.peerAbsent_keeps (s : State) (p : StationId) (x : Cause) :
    (s.peerAbsent p x).pending = s.pending ∧ (s.peerAbsent p x).inReset = s.inReset ∧ (s.peerAbsent p x).port = s.port ∧
    (s.peerAbsent p x).lm = s.lm ∧ (s.peerAbsent p x).fr = s.fr ∧ (s.peerAbsent p x).tu = s.tu ∧
    (s.peerAbsent p x).mu = s.mu ∧ (s.peerAbsent p x).delivered = s.delivered ∧ (s.peerAbsent p x).ticket = s.ticket ∧
    (s.peerAbsent p x).answers = s.answers ∧ (s.peerAbsent p x).cfg = s.cfg ∧ (s.peerAbsent p x).reply = s.reply := by
  simp [State.peerAbsent]

/-- The restart of a peer (R73). It changes no field but slots, report, peers, gu. -/
@[simp] theorem State.peerRestart_keeps (s : State) (p : StationId) :
    (s.peerRestart p).pending = s.pending ∧ (s.peerRestart p).inReset = s.inReset ∧ (s.peerRestart p).port = s.port ∧
    (s.peerRestart p).lm = s.lm ∧ (s.peerRestart p).fr = s.fr ∧ (s.peerRestart p).tu = s.tu ∧ (s.peerRestart p).mu = s.mu ∧
    (s.peerRestart p).delivered = s.delivered ∧ (s.peerRestart p).ticket = s.ticket ∧ (s.peerRestart p).answers = s.answers ∧
    (s.peerRestart p).cfg = s.cfg ∧ (s.peerRestart p).reply = s.reply := by
  simp [State.peerRestart]

/-- The liveness step (R70). It changes no field but peers. -/
@[simp] theorem State.liveness_keeps (s : State) (p : StationId) :
    (s.liveness p).pending = s.pending ∧ (s.liveness p).inReset = s.inReset ∧ (s.liveness p).port = s.port ∧
    (s.liveness p).lm = s.lm ∧ (s.liveness p).fr = s.fr ∧ (s.liveness p).tu = s.tu ∧ (s.liveness p).mu = s.mu ∧
    (s.liveness p).slots = s.slots ∧ (s.liveness p).delivered = s.delivered ∧ (s.liveness p).ticket = s.ticket ∧
    (s.liveness p).answers = s.answers ∧ (s.liveness p).gu = s.gu ∧ (s.liveness p).cfg = s.cfg ∧
    (s.liveness p).reply = s.reply ∧ (s.liveness p).report = s.report := by
  unfold State.liveness
  repeat' split
  all_goals simp

/-- A roll's groups taken (R72). It changes no field but peers. -/
@[simp] theorem State.takeGroups_keeps (s : State) (p : StationId) (g : GroupSet) :
    (s.takeGroups p g).pending = s.pending ∧ (s.takeGroups p g).inReset = s.inReset ∧ (s.takeGroups p g).port = s.port ∧
    (s.takeGroups p g).lm = s.lm ∧ (s.takeGroups p g).fr = s.fr ∧ (s.takeGroups p g).tu = s.tu ∧
    (s.takeGroups p g).mu = s.mu ∧ (s.takeGroups p g).slots = s.slots ∧ (s.takeGroups p g).delivered = s.delivered ∧
    (s.takeGroups p g).ticket = s.ticket ∧ (s.takeGroups p g).answers = s.answers ∧ (s.takeGroups p g).gu = s.gu ∧
    (s.takeGroups p g).cfg = s.cfg ∧ (s.takeGroups p g).reply = s.reply ∧ (s.takeGroups p g).report = s.report := by
  simp [State.takeGroups]

/-- A ROLL in JOINING (R65). It changes no field but peers. -/
@[simp] theorem State.rollInJoining_keeps (s : State) (p : StationId) (g : GroupSet) (f : Byte) :
    (s.rollInJoining p g f).pending = s.pending ∧ (s.rollInJoining p g f).inReset = s.inReset ∧
    (s.rollInJoining p g f).port = s.port ∧ (s.rollInJoining p g f).lm = s.lm ∧ (s.rollInJoining p g f).fr = s.fr ∧
    (s.rollInJoining p g f).tu = s.tu ∧ (s.rollInJoining p g f).mu = s.mu ∧ (s.rollInJoining p g f).slots = s.slots ∧
    (s.rollInJoining p g f).delivered = s.delivered ∧ (s.rollInJoining p g f).ticket = s.ticket ∧
    (s.rollInJoining p g f).answers = s.answers ∧ (s.rollInJoining p g f).gu = s.gu ∧ (s.rollInJoining p g f).cfg = s.cfg ∧
    (s.rollInJoining p g f).reply = s.reply ∧ (s.rollInJoining p g f).report = s.report := by
  unfold State.rollInJoining
  repeat' split
  all_goals simp

/-- A ROLL in MEMBER (R71 to R73). It changes no field but slots, report, peers, gu. -/
@[simp] theorem State.rollInMember_keeps (s : State) (p : StationId) (g : GroupSet) (f : Byte) :
    (s.rollInMember p g f).pending = s.pending ∧ (s.rollInMember p g f).inReset = s.inReset ∧
    (s.rollInMember p g f).port = s.port ∧ (s.rollInMember p g f).lm = s.lm ∧ (s.rollInMember p g f).fr = s.fr ∧
    (s.rollInMember p g f).tu = s.tu ∧ (s.rollInMember p g f).mu = s.mu ∧ (s.rollInMember p g f).delivered = s.delivered ∧
    (s.rollInMember p g f).ticket = s.ticket ∧ (s.rollInMember p g f).answers = s.answers ∧
    (s.rollInMember p g f).cfg = s.cfg ∧ (s.rollInMember p g f).reply = s.reply := by
  unfold State.rollInMember
  repeat' split
  all_goals simp

/-- One more interval of silence (R68). It changes no field but peers. -/
@[simp] theorem State.ageOne_keeps (s : State) (p : StationId) :
    (s.ageOne p).pending = s.pending ∧ (s.ageOne p).inReset = s.inReset ∧ (s.ageOne p).port = s.port ∧
    (s.ageOne p).lm = s.lm ∧ (s.ageOne p).fr = s.fr ∧ (s.ageOne p).tu = s.tu ∧ (s.ageOne p).mu = s.mu ∧
    (s.ageOne p).slots = s.slots ∧ (s.ageOne p).delivered = s.delivered ∧ (s.ageOne p).ticket = s.ticket ∧
    (s.ageOne p).answers = s.answers ∧ (s.ageOne p).gu = s.gu ∧ (s.ageOne p).cfg = s.cfg ∧ (s.ageOne p).reply = s.reply ∧
    (s.ageOne p).report = s.report := by
  unfold State.ageOne
  repeat' split
  all_goals simp

/-- A peer lost at the third expiry (R68). It changes no field but slots, report, peers, gu. -/
@[simp] theorem State.loseOne_keeps (s : State) (p : StationId) :
    (s.loseOne p).pending = s.pending ∧ (s.loseOne p).inReset = s.inReset ∧ (s.loseOne p).port = s.port ∧
    (s.loseOne p).lm = s.lm ∧ (s.loseOne p).fr = s.fr ∧ (s.loseOne p).tu = s.tu ∧ (s.loseOne p).mu = s.mu ∧
    (s.loseOne p).delivered = s.delivered ∧ (s.loseOne p).ticket = s.ticket ∧ (s.loseOne p).answers = s.answers ∧
    (s.loseOne p).cfg = s.cfg ∧ (s.loseOne p).reply = s.reply := by
  unfold State.loseOne
  repeat' split
  all_goals simp

/-- Ageing (R68). It changes no field but slots, report, peers, gu. -/
@[simp] theorem State.age_keeps (s : State) :
    (s.age).pending = s.pending ∧ (s.age).inReset = s.inReset ∧ (s.age).port = s.port ∧ (s.age).lm = s.lm ∧
    (s.age).fr = s.fr ∧ (s.age).tu = s.tu ∧ (s.age).mu = s.mu ∧ (s.age).delivered = s.delivered ∧ (s.age).ticket = s.ticket ∧
    (s.age).answers = s.answers ∧ (s.age).cfg = s.cfg ∧ (s.age).reply = s.reply := by
  unfold State.age
  refine ⟨?_, ?_, ?_, ?_, ?_, ?_, ?_, ?_, ?_, ?_, ?_, ?_⟩ <;>
  · refine (foldl_keeps _ _ (fun _ _ => by simp) _ _).trans ?_
    exact foldl_keeps _ _ (fun _ _ => by simp) _ _

/-- The peer table emptied (R75). It changes no field but peers. -/
@[simp] theorem State.clearPeers_keeps (s : State) :
    (s.clearPeers).pending = s.pending ∧ (s.clearPeers).inReset = s.inReset ∧ (s.clearPeers).port = s.port ∧
    (s.clearPeers).lm = s.lm ∧ (s.clearPeers).fr = s.fr ∧ (s.clearPeers).tu = s.tu ∧ (s.clearPeers).mu = s.mu ∧
    (s.clearPeers).slots = s.slots ∧ (s.clearPeers).delivered = s.delivered ∧ (s.clearPeers).ticket = s.ticket ∧
    (s.clearPeers).answers = s.answers ∧ (s.clearPeers).gu = s.gu ∧ (s.clearPeers).cfg = s.cfg ∧
    (s.clearPeers).reply = s.reply ∧ (s.clearPeers).report = s.report := by
  unfold State.clearPeers
  refine ⟨?_, ?_, ?_, ?_, ?_, ?_, ?_, ?_, ?_, ?_, ?_, ?_, ?_, ?_, ?_⟩ <;>
  exact foldl_keeps _ _ (fun _ _ => by split <;> rfl) _ _

/-- The teardown (R75). It changes no field but slots, report, peers, gu, answers, mu. -/
@[simp] theorem State.teardown_keeps (s : State) (x : Cause) :
    (s.teardown x).pending = s.pending ∧ (s.teardown x).inReset = s.inReset ∧ (s.teardown x).port = s.port ∧
    (s.teardown x).lm = s.lm ∧ (s.teardown x).fr = s.fr ∧ (s.teardown x).tu = s.tu ∧ (s.teardown x).delivered = s.delivered ∧
    (s.teardown x).ticket = s.ticket ∧ (s.teardown x).cfg = s.cfg ∧ (s.teardown x).reply = s.reply := by
  simp [State.teardown]

/-- Entry to JOINING (R64). It changes no field but mu, tu. -/
@[simp] theorem State.enterJoining_keeps (s : State) :
    (s.enterJoining).pending = s.pending ∧ (s.enterJoining).inReset = s.inReset ∧ (s.enterJoining).port = s.port ∧
    (s.enterJoining).lm = s.lm ∧ (s.enterJoining).fr = s.fr ∧ (s.enterJoining).peers = s.peers ∧
    (s.enterJoining).slots = s.slots ∧ (s.enterJoining).delivered = s.delivered ∧ (s.enterJoining).ticket = s.ticket ∧
    (s.enterJoining).answers = s.answers ∧ (s.enterJoining).gu = s.gu ∧ (s.enterJoining).cfg = s.cfg ∧
    (s.enterJoining).reply = s.reply ∧ (s.enterJoining).report = s.report := by
  simp [State.enterJoining]

/-- The end of the join period (R66). It changes no field but mu, tu, report. -/
@[simp] theorem State.joinDone_keeps (s : State) :
    (s.joinDone).pending = s.pending ∧ (s.joinDone).inReset = s.inReset ∧ (s.joinDone).port = s.port ∧
    (s.joinDone).lm = s.lm ∧ (s.joinDone).fr = s.fr ∧ (s.joinDone).peers = s.peers ∧ (s.joinDone).slots = s.slots ∧
    (s.joinDone).delivered = s.delivered ∧ (s.joinDone).ticket = s.ticket ∧ (s.joinDone).answers = s.answers ∧
    (s.joinDone).gu = s.gu ∧ (s.joinDone).cfg = s.cfg ∧ (s.joinDone).reply = s.reply := by
  simp [State.joinDone]

/-- The end of a leave (R79, R80). It changes no field but mu, tu, report. -/
@[simp] theorem State.leaveDone_keeps (s : State) :
    (s.leaveDone).pending = s.pending ∧ (s.leaveDone).inReset = s.inReset ∧ (s.leaveDone).port = s.port ∧
    (s.leaveDone).lm = s.lm ∧ (s.leaveDone).fr = s.fr ∧ (s.leaveDone).peers = s.peers ∧ (s.leaveDone).slots = s.slots ∧
    (s.leaveDone).delivered = s.delivered ∧ (s.leaveDone).ticket = s.ticket ∧ (s.leaveDone).answers = s.answers ∧
    (s.leaveDone).gu = s.gu ∧ (s.leaveDone).cfg = s.cfg ∧ (s.leaveDone).reply = s.reply := by
  simp [State.leaveDone]

/-- LEAVE in JOINING and SILENCED (R81). It changes no field but mu, tu, report, peers. -/
@[simp] theorem State.leaveAtOnce_keeps (s : State) :
    (s.leaveAtOnce).pending = s.pending ∧ (s.leaveAtOnce).inReset = s.inReset ∧ (s.leaveAtOnce).port = s.port ∧
    (s.leaveAtOnce).lm = s.lm ∧ (s.leaveAtOnce).fr = s.fr ∧ (s.leaveAtOnce).slots = s.slots ∧
    (s.leaveAtOnce).delivered = s.delivered ∧ (s.leaveAtOnce).ticket = s.ticket ∧ (s.leaveAtOnce).answers = s.answers ∧
    (s.leaveAtOnce).gu = s.gu ∧ (s.leaveAtOnce).cfg = s.cfg ∧ (s.leaveAtOnce).reply = s.reply := by
  simp [State.leaveAtOnce]

/-- LEAVE in MEMBER (R78). It changes no field but slots, report, peers, gu, answers, mu, tu. -/
@[simp] theorem State.beginLeave_keeps (s : State) :
    (s.beginLeave).pending = s.pending ∧ (s.beginLeave).inReset = s.inReset ∧ (s.beginLeave).port = s.port ∧
    (s.beginLeave).lm = s.lm ∧ (s.beginLeave).fr = s.fr ∧ (s.beginLeave).delivered = s.delivered ∧
    (s.beginLeave).ticket = s.ticket ∧ (s.beginLeave).cfg = s.cfg ∧ (s.beginLeave).reply = s.reply := by
  simp [State.beginLeave]

/-- The leave timer's expiry (R80). It changes no field but mu, tu, report. -/
@[simp] theorem State.leaveExpiry_keeps (s : State) :
    (s.leaveExpiry).pending = s.pending ∧ (s.leaveExpiry).inReset = s.inReset ∧ (s.leaveExpiry).port = s.port ∧
    (s.leaveExpiry).lm = s.lm ∧ (s.leaveExpiry).fr = s.fr ∧ (s.leaveExpiry).peers = s.peers ∧
    (s.leaveExpiry).slots = s.slots ∧ (s.leaveExpiry).delivered = s.delivered ∧ (s.leaveExpiry).ticket = s.ticket ∧
    (s.leaveExpiry).answers = s.answers ∧ (s.leaveExpiry).gu = s.gu ∧ (s.leaveExpiry).cfg = s.cfg ∧
    (s.leaveExpiry).reply = s.reply := by
  unfold State.leaveExpiry
  repeat' split
  all_goals simp

/-- The roll timer's expiry (R67). It changes no field but slots, report, peers, gu, mu. -/
@[simp] theorem State.rollExpiry_keeps (s : State) :
    (s.rollExpiry).pending = s.pending ∧ (s.rollExpiry).inReset = s.inReset ∧ (s.rollExpiry).port = s.port ∧
    (s.rollExpiry).lm = s.lm ∧ (s.rollExpiry).fr = s.fr ∧ (s.rollExpiry).tu = s.tu ∧ (s.rollExpiry).delivered = s.delivered ∧
    (s.rollExpiry).ticket = s.ticket ∧ (s.rollExpiry).answers = s.answers ∧ (s.rollExpiry).cfg = s.cfg ∧
    (s.rollExpiry).reply = s.reply := by
  simp [State.rollExpiry]

/-- The end of a roll attempt (R69, R79). It changes no field but mu, tu, report. -/
@[simp] theorem State.rollResult_keeps (s : State) (j b : Bool) :
    (s.rollResult j b).pending = s.pending ∧ (s.rollResult j b).inReset = s.inReset ∧ (s.rollResult j b).port = s.port ∧
    (s.rollResult j b).lm = s.lm ∧ (s.rollResult j b).fr = s.fr ∧ (s.rollResult j b).peers = s.peers ∧
    (s.rollResult j b).slots = s.slots ∧ (s.rollResult j b).delivered = s.delivered ∧ (s.rollResult j b).ticket = s.ticket ∧
    (s.rollResult j b).answers = s.answers ∧ (s.rollResult j b).gu = s.gu ∧ (s.rollResult j b).cfg = s.cfg ∧
    (s.rollResult j b).reply = s.reply := by
  unfold State.rollResult
  dsimp only
  repeat' split
  all_goals simp

/-- The eighth failure (R76). It changes no field but slots, report, peers, gu, answers, mu, tu. -/
@[simp] theorem State.eighthFailure_keeps (s : State) :
    (s.eighthFailure).pending = s.pending ∧ (s.eighthFailure).inReset = s.inReset ∧ (s.eighthFailure).port = s.port ∧
    (s.eighthFailure).lm = s.lm ∧ (s.eighthFailure).fr = s.fr ∧ (s.eighthFailure).delivered = s.delivered ∧
    (s.eighthFailure).ticket = s.ticket ∧ (s.eighthFailure).cfg = s.cfg ∧ (s.eighthFailure).reply = s.reply := by
  unfold State.eighthFailure
  dsimp only
  repeat' split
  all_goals simp

/-- A clash (R77). It changes no field but slots, report, peers, gu, answers, mu, tu. -/
@[simp] theorem State.onClash_keeps (s : State) :
    (s.onClash).pending = s.pending ∧ (s.onClash).inReset = s.inReset ∧ (s.onClash).port = s.port ∧ (s.onClash).lm = s.lm ∧
    (s.onClash).fr = s.fr ∧ (s.onClash).delivered = s.delivered ∧ (s.onClash).ticket = s.ticket ∧ (s.onClash).cfg = s.cfg ∧
    (s.onClash).reply = s.reply := by
  unfold State.onClash
  dsimp only
  repeat' split
  all_goals simp

end Sys2Proof.Machine
end

