-- ==== Sys2Proof/Laws/Line.lean ====
section
/-!
SUPPORT. What an attempt, its result, a boundary, a sample and a frame's closing leave alone.
-/
namespace Sys2Proof.Machine

open Sys2Proof

/-- An owner's item put on the line (Table 3-5). It changes no field but answers, mu, slots, peers. -/
@[simp] theorem State.putOnLine_keeps (s : State) (of : Offer) :
    (s.putOnLine of).pending = s.pending ∧ (s.putOnLine of).inReset = s.inReset ∧ (s.putOnLine of).port = s.port ∧
    (s.putOnLine of).lm = s.lm ∧ (s.putOnLine of).fr = s.fr ∧ (s.putOnLine of).tu = s.tu ∧
    (s.putOnLine of).delivered = s.delivered ∧ (s.putOnLine of).ticket = s.ticket ∧ (s.putOnLine of).gu = s.gu ∧
    (s.putOnLine of).cfg = s.cfg ∧ (s.putOnLine of).reply = s.reply ∧ (s.putOnLine of).report = s.report := by
  unfold State.putOnLine State.enterWindow
  repeat' split
  all_goals simp

/-- The start of an attempt (R45). It changes no field but answers, mu, slots, peers, tu. -/
@[simp] theorem State.startAttempt_keeps (s : State) (of : Offer) :
    (s.startAttempt of).pending = s.pending ∧ (s.startAttempt of).inReset = s.inReset ∧ (s.startAttempt of).port = s.port ∧
    (s.startAttempt of).lm = s.lm ∧ (s.startAttempt of).fr = s.fr ∧ (s.startAttempt of).delivered = s.delivered ∧
    (s.startAttempt of).ticket = s.ticket ∧ (s.startAttempt of).gu = s.gu ∧ (s.startAttempt of).cfg = s.cfg ∧
    (s.startAttempt of).reply = s.reply ∧ (s.startAttempt of).report = s.report := by
  simp [State.startAttempt]

/-- A start point (R41). It changes no field but answers, mu, slots, peers, tu. -/
@[simp] theorem State.atStartPoint_keeps (s : State) :
    (s.atStartPoint).pending = s.pending ∧ (s.atStartPoint).inReset = s.inReset ∧ (s.atStartPoint).port = s.port ∧
    (s.atStartPoint).lm = s.lm ∧ (s.atStartPoint).fr = s.fr ∧ (s.atStartPoint).delivered = s.delivered ∧
    (s.atStartPoint).ticket = s.ticket ∧ (s.atStartPoint).gu = s.gu ∧ (s.atStartPoint).cfg = s.cfg ∧
    (s.atStartPoint).reply = s.reply ∧ (s.atStartPoint).report = s.report := by
  unfold State.atStartPoint
  repeat' split
  all_goals simp

/-- A result at its owner (R56). It changes no field but slots, report, peers, gu, answers, mu, tu. -/
@[simp] theorem State.tellOwner_keeps (s : State) (w : Owner) (b : Bool) :
    (s.tellOwner w b).pending = s.pending ∧ (s.tellOwner w b).inReset = s.inReset ∧ (s.tellOwner w b).port = s.port ∧
    (s.tellOwner w b).lm = s.lm ∧ (s.tellOwner w b).fr = s.fr ∧ (s.tellOwner w b).delivered = s.delivered ∧
    (s.tellOwner w b).ticket = s.ticket ∧ (s.tellOwner w b).cfg = s.cfg ∧ (s.tellOwner w b).reply = s.reply := by
  unfold State.tellOwner
  repeat' split
  all_goals simp

/-- A result at the owner of the buffer's frame. It changes no field but slots, report, peers, gu, answers, mu, tu. -/
@[simp] theorem State.tellBuffer_keeps (s : State) (x : Option TransmitBuffer) (b : Bool) :
    (s.tellBuffer x b).pending = s.pending ∧ (s.tellBuffer x b).inReset = s.inReset ∧ (s.tellBuffer x b).port = s.port ∧
    (s.tellBuffer x b).lm = s.lm ∧ (s.tellBuffer x b).fr = s.fr ∧ (s.tellBuffer x b).delivered = s.delivered ∧
    (s.tellBuffer x b).ticket = s.ticket ∧ (s.tellBuffer x b).cfg = s.cfg ∧ (s.tellBuffer x b).reply = s.reply := by
  unfold State.tellBuffer
  repeat' split
  all_goals simp

/-- The result LOST (R47). It changes no field but slots, report, peers, gu, answers, mu, tu. -/
@[simp] theorem State.attemptLost_keeps (s : State) :
    (s.attemptLost).pending = s.pending ∧ (s.attemptLost).inReset = s.inReset ∧ (s.attemptLost).port = s.port ∧
    (s.attemptLost).lm = s.lm ∧ (s.attemptLost).fr = s.fr ∧ (s.attemptLost).delivered = s.delivered ∧
    (s.attemptLost).ticket = s.ticket ∧ (s.attemptLost).cfg = s.cfg ∧ (s.attemptLost).reply = s.reply := by
  simp [State.attemptLost]

/-- The result SENT (R53). It changes no field but slots, report, peers, gu, answers, mu, tu. -/
@[simp] theorem State.attemptSent_keeps (s : State) :
    (s.attemptSent).pending = s.pending ∧ (s.attemptSent).inReset = s.inReset ∧ (s.attemptSent).port = s.port ∧
    (s.attemptSent).lm = s.lm ∧ (s.attemptSent).fr = s.fr ∧ (s.attemptSent).delivered = s.delivered ∧
    (s.attemptSent).ticket = s.ticket ∧ (s.attemptSent).cfg = s.cfg ∧ (s.attemptSent).reply = s.reply := by
  simp [State.attemptSent]

/-- The result FAILED (R50, R54). It changes no field but slots, report, peers, gu, answers, mu, tu. -/
@[simp] theorem State.attemptFailed_keeps (s : State) :
    (s.attemptFailed).pending = s.pending ∧ (s.attemptFailed).inReset = s.inReset ∧ (s.attemptFailed).port = s.port ∧
    (s.attemptFailed).lm = s.lm ∧ (s.attemptFailed).fr = s.fr ∧ (s.attemptFailed).delivered = s.delivered ∧
    (s.attemptFailed).ticket = s.ticket ∧ (s.attemptFailed).cfg = s.cfg ∧ (s.attemptFailed).reply = s.reply := by
  unfold State.attemptFailed
  dsimp only
  split <;> simp

/-- The readback (R46 to R50). It changes no field but slots, report, peers, gu, answers, mu, tu. -/
@[simp] theorem State.onReadback_keeps (s : State) (b : Level) :
    (s.onReadback b).pending = s.pending ∧ (s.onReadback b).inReset = s.inReset ∧ (s.onReadback b).port = s.port ∧
    (s.onReadback b).lm = s.lm ∧ (s.onReadback b).fr = s.fr ∧ (s.onReadback b).delivered = s.delivered ∧
    (s.onReadback b).ticket = s.ticket ∧ (s.onReadback b).cfg = s.cfg ∧ (s.onReadback b).reply = s.reply := by
  unfold State.onReadback
  repeat' split
  all_goals simp

/-- The held event at the Transmit Unit (R51). It changes no field but slots, report, peers, gu, answers, mu, tu. -/
@[simp] theorem State.tuHeld_keeps (s : State) :
    (s.tuHeld).pending = s.pending ∧ (s.tuHeld).inReset = s.inReset ∧ (s.tuHeld).port = s.port ∧ (s.tuHeld).lm = s.lm ∧
    (s.tuHeld).fr = s.fr ∧ (s.tuHeld).delivered = s.delivered ∧ (s.tuHeld).ticket = s.ticket ∧ (s.tuHeld).cfg = s.cfg ∧
    (s.tuHeld).reply = s.reply := by
  unfold State.tuHeld
  repeat' split
  all_goals simp

/-- A bit boundary (R13, R50). It changes no field but slots, report, peers, gu, answers, mu, tu, lm. -/
@[simp] theorem State.boundary_keeps (s : State) :
    (s.boundary).pending = s.pending ∧ (s.boundary).inReset = s.inReset ∧ (s.boundary).port = s.port ∧
    (s.boundary).fr = s.fr ∧ (s.boundary).delivered = s.delivered ∧ (s.boundary).ticket = s.ticket ∧
    (s.boundary).cfg = s.cfg ∧ (s.boundary).reply = s.reply := by
  unfold State.boundary
  repeat' split
  all_goals simp

/-- The boundary that a pending sample lets pass (R3). It changes no field but slots, report, peers, gu, answers, mu, tu, lm. -/
@[simp] theorem State.atBit_keeps (s : State) :
    (s.atBit).pending = s.pending ∧ (s.atBit).inReset = s.inReset ∧ (s.atBit).port = s.port ∧ (s.atBit).fr = s.fr ∧
    (s.atBit).delivered = s.delivered ∧ (s.atBit).ticket = s.ticket ∧ (s.atBit).cfg = s.cfg ∧ (s.atBit).reply = s.reply := by
  unfold State.atBit
  repeat' split
  all_goals simp

/-- The notices and the deferred flag at a sample (R14, R16). It changes no field but tu, report. -/
@[simp] theorem State.lineEvents_keeps (s : State) (lm : LineMonitor) (b : Level) :
    (s.lineEvents lm b).pending = s.pending ∧ (s.lineEvents lm b).inReset = s.inReset ∧ (s.lineEvents lm b).port = s.port ∧
    (s.lineEvents lm b).lm = s.lm ∧ (s.lineEvents lm b).fr = s.fr ∧ (s.lineEvents lm b).mu = s.mu ∧
    (s.lineEvents lm b).peers = s.peers ∧ (s.lineEvents lm b).slots = s.slots ∧ (s.lineEvents lm b).delivered = s.delivered ∧
    (s.lineEvents lm b).ticket = s.ticket ∧ (s.lineEvents lm b).answers = s.answers ∧ (s.lineEvents lm b).gu = s.gu ∧
    (s.lineEvents lm b).cfg = s.cfg ∧ (s.lineEvents lm b).reply = s.reply := by
  unfold State.lineEvents
  dsimp only
  repeat' split
  all_goals simp

/-- The deferral step (R36). It changes no field but tu. -/
@[simp] theorem State.clearDeferral_keeps (s : State) (ms : Msg) :
    (s.clearDeferral ms).pending = s.pending ∧ (s.clearDeferral ms).inReset = s.inReset ∧ (s.clearDeferral ms).port = s.port ∧
    (s.clearDeferral ms).lm = s.lm ∧ (s.clearDeferral ms).fr = s.fr ∧ (s.clearDeferral ms).mu = s.mu ∧
    (s.clearDeferral ms).peers = s.peers ∧ (s.clearDeferral ms).slots = s.slots ∧
    (s.clearDeferral ms).delivered = s.delivered ∧ (s.clearDeferral ms).ticket = s.ticket ∧
    (s.clearDeferral ms).answers = s.answers ∧ (s.clearDeferral ms).gu = s.gu ∧ (s.clearDeferral ms).cfg = s.cfg ∧
    (s.clearDeferral ms).reply = s.reply ∧ (s.clearDeferral ms).report = s.report := by
  unfold State.clearDeferral
  repeat' split
  all_goals simp

/-- The destination filter (R37). It changes no field but slots, report, peers, gu, answers, delivered. -/
@[simp] theorem State.filterDest_keeps (s : State) (ms : Msg) :
    (s.filterDest ms).pending = s.pending ∧ (s.filterDest ms).inReset = s.inReset ∧ (s.filterDest ms).port = s.port ∧
    (s.filterDest ms).lm = s.lm ∧ (s.filterDest ms).fr = s.fr ∧ (s.filterDest ms).tu = s.tu ∧ (s.filterDest ms).mu = s.mu ∧
    (s.filterDest ms).ticket = s.ticket ∧ (s.filterDest ms).cfg = s.cfg ∧ (s.filterDest ms).reply = s.reply := by
  unfold State.filterDest
  repeat' split
  all_goals simp

/-- The dispatch of a frame in MEMBER (R36). It changes no field but slots, report, peers, gu, answers, delivered, tu. -/
@[simp] theorem State.dispatchMember_keeps (s : State) (ms : Msg) :
    (s.dispatchMember ms).pending = s.pending ∧ (s.dispatchMember ms).inReset = s.inReset ∧
    (s.dispatchMember ms).port = s.port ∧ (s.dispatchMember ms).lm = s.lm ∧ (s.dispatchMember ms).fr = s.fr ∧
    (s.dispatchMember ms).mu = s.mu ∧ (s.dispatchMember ms).ticket = s.ticket ∧ (s.dispatchMember ms).cfg = s.cfg ∧
    (s.dispatchMember ms).reply = s.reply := by
  simp [State.dispatchMember]

/-- The use of a frame in JOINING (R35). It changes no field but peers. -/
@[simp] theorem State.dispatchJoining_keeps (s : State) (ms : Msg) :
    (s.dispatchJoining ms).pending = s.pending ∧ (s.dispatchJoining ms).inReset = s.inReset ∧
    (s.dispatchJoining ms).port = s.port ∧ (s.dispatchJoining ms).lm = s.lm ∧ (s.dispatchJoining ms).fr = s.fr ∧
    (s.dispatchJoining ms).tu = s.tu ∧ (s.dispatchJoining ms).mu = s.mu ∧ (s.dispatchJoining ms).slots = s.slots ∧
    (s.dispatchJoining ms).delivered = s.delivered ∧ (s.dispatchJoining ms).ticket = s.ticket ∧
    (s.dispatchJoining ms).answers = s.answers ∧ (s.dispatchJoining ms).gu = s.gu ∧ (s.dispatchJoining ms).cfg = s.cfg ∧
    (s.dispatchJoining ms).reply = s.reply ∧ (s.dispatchJoining ms).report = s.report := by
  unfold State.dispatchJoining
  repeat' split
  all_goals simp

/-- The use of a valid frame (R34 to R36). It changes no field but slots, report, peers, gu, answers, mu, tu, delivered. -/
@[simp] theorem State.useFrame_keeps (s : State) (ms : Msg) :
    (s.useFrame ms).pending = s.pending ∧ (s.useFrame ms).inReset = s.inReset ∧ (s.useFrame ms).port = s.port ∧
    (s.useFrame ms).lm = s.lm ∧ (s.useFrame ms).fr = s.fr ∧ (s.useFrame ms).ticket = s.ticket ∧ (s.useFrame ms).cfg = s.cfg ∧
    (s.useFrame ms).reply = s.reply := by
  unfold State.useFrame
  repeat' split
  all_goals simp

/-- The closing of another station's frame (R28). It changes no field but slots, report, peers, gu, answers, mu, tu, delivered, lm, fr. -/
@[simp] theorem State.frameCloses_keeps (s : State) (ms : Msg) :
    (s.frameCloses ms).pending = s.pending ∧ (s.frameCloses ms).inReset = s.inReset ∧ (s.frameCloses ms).port = s.port ∧
    (s.frameCloses ms).ticket = s.ticket ∧ (s.frameCloses ms).cfg = s.cfg ∧ (s.frameCloses ms).reply = s.reply := by
  unfold State.frameCloses
  repeat' split
  all_goals simp

/-- A closed frame judged and used (R28 to R35). It changes no field but slots, report, peers, gu, answers, mu, tu, delivered. -/
@[simp] theorem State.onClosed_keeps (s : State) (w d : Bool) (c : BitVec 16) (l : List Bool) :
    (s.onClosed w d c l).pending = s.pending ∧ (s.onClosed w d c l).inReset = s.inReset ∧ (s.onClosed w d c l).port = s.port ∧
    (s.onClosed w d c l).lm = s.lm ∧ (s.onClosed w d c l).fr = s.fr ∧ (s.onClosed w d c l).ticket = s.ticket ∧
    (s.onClosed w d c l).cfg = s.cfg ∧ (s.onClosed w d c l).reply = s.reply := by
  unfold State.onClosed
  repeat' split
  all_goals simp

/-- A sample at the Frame Receiver (R25 to R28). It changes no field but slots, report, peers, gu, answers, mu, tu, delivered, fr. -/
@[simp] theorem State.receive_keeps (s : State) (w : Bool) (b : Level) (r : Option RunReport) :
    (s.receive w b r).pending = s.pending ∧ (s.receive w b r).inReset = s.inReset ∧ (s.receive w b r).port = s.port ∧
    (s.receive w b r).lm = s.lm ∧ (s.receive w b r).ticket = s.ticket ∧ (s.receive w b r).cfg = s.cfg ∧
    (s.receive w b r).reply = s.reply := by
  unfold State.receive
  dsimp only
  split <;> simp

/-- The held event (R15). It changes no field but slots, report, peers, gu, answers, mu, tu, fr. -/
@[simp] theorem State.onHeld_keeps (s : State) :
    (s.onHeld).pending = s.pending ∧ (s.onHeld).inReset = s.inReset ∧ (s.onHeld).port = s.port ∧ (s.onHeld).lm = s.lm ∧
    (s.onHeld).delivered = s.delivered ∧ (s.onHeld).ticket = s.ticket ∧ (s.onHeld).cfg = s.cfg ∧ (s.onHeld).reply = s.reply := by
  simp [State.onHeld]

/-- A sample at every block (R10). It changes no field but slots, report, peers, gu, answers, mu, tu, delivered, lm, fr. -/
@[simp] theorem State.takeSample_keeps (s : State) (b : Level) :
    (s.takeSample b).pending = s.pending ∧ (s.takeSample b).inReset = s.inReset ∧ (s.takeSample b).port = s.port ∧
    (s.takeSample b).ticket = s.ticket ∧ (s.takeSample b).cfg = s.cfg ∧ (s.takeSample b).reply = s.reply := by
  unfold State.takeSample
  dsimp only
  split <;> simp

/-- LINE_SAMPLE. It changes no field but slots, report, peers, gu, answers, mu, tu, delivered, lm, fr. -/
@[simp] theorem State.sample_keeps (s : State) (b : Level) :
    (s.sample b).pending = s.pending ∧ (s.sample b).inReset = s.inReset ∧ (s.sample b).port = s.port ∧
    (s.sample b).ticket = s.ticket ∧ (s.sample b).cfg = s.cfg ∧ (s.sample b).reply = s.reply := by
  unfold State.sample
  repeat' split
  all_goals simp

/-- A row that names what a sample brings about. It changes no field but slots, report, peers, gu, answers, mu, tu, delivered, lm, fr. -/
@[simp] theorem State.sampleIf_keeps (s : State) (due : State → Bool) (b : Level) :
    (s.sampleIf due b).pending = s.pending ∧ (s.sampleIf due b).inReset = s.inReset ∧ (s.sampleIf due b).port = s.port ∧
    (s.sampleIf due b).ticket = s.ticket ∧ (s.sampleIf due b).cfg = s.cfg ∧ (s.sampleIf due b).reply = s.reply := by
  unfold State.sampleIf
  repeat' split
  all_goals simp

/-- A sample's record at the Line Monitor, whatever the other blocks do with it (R10). -/
@[simp] theorem State.takeSample_lm (s : State) (b : Level) : (s.takeSample b).lm = s.lm.afterSample b := by
  have hr : ∀ (u : State) (w : Bool) (r : Option RunReport), (u.receive w b r).lm = u.lm := fun u w r => (u.receive_keeps w b r).2.2.2.1
  unfold State.takeSample
  dsimp only
  rw [hr]
  split <;> simp

end Sys2Proof.Machine
end

