-- ==== Sys2Proof/Laws/Slots.lean ====
section
/-!
SUPPORT. How each operation may change a slot: never a DONE or a DELIVERED one, and never what a posted parcel was posted with
(R91, R92). The operations that free a slot, FETCH, REPORT and the resets, are not among them.
-/
namespace Sys2Proof.Machine

open Sys2Proof Sys2Proof.Safety

theorem sameParcel_refl (c : Parcel) : sameParcel c c := ⟨rfl, rfl, rfl, rfl⟩

theorem sameParcel_trans {a b c : Parcel} (h : sameParcel a b) (h' : sameParcel b c) : sameParcel a c :=
  ⟨h'.1.trans h.1, h'.2.1.trans h.2.1, h'.2.2.1.trans h.2.2.1, h'.2.2.2.trans h.2.2.2⟩

theorem mayBecome_refl (a : Slot) : mayBecome a a := .inl rfl

theorem mayBecome_free (b : Slot) : mayBecome .free b := .inr (.inl rfl)

theorem mayBecome_trans {a b c : Slot} (h : mayBecome a b) (h' : mayBecome b c) : mayBecome a c := by
  rcases h with rfl | rfl | ⟨x, y, hp, ha, hb⟩
  · exact h'
  · exact mayBecome_free c
  · rcases h' with rfl | rfl | ⟨x', y', hp', ha', hb'⟩
    · exact .inr (.inr ⟨x, y, hp, ha, hb⟩)
    · simp at hb
    · have hy : y = x' := by
        rcases hb with rfl | rfl | ⟨o, rfl⟩ <;> rcases ha' with h | h <;> simp_all
      subst hy
      exact .inr (.inr ⟨x, y', sameParcel_trans hp hp', ha, hb'⟩)

/-- Every slot of `t` is one that its slot of `s` may become. -/
abbrev slotsGo (s t : State) : Prop := ∀ k : SlotId, mayBecome (s.slot k) (t.slot k)

theorem slotsGo_of_slots {s t : State} (h : t.slots = s.slots) : slotsGo s t := fun k => by
  rw [State.slot_congr h k]; exact mayBecome_refl _

theorem slotsGo_trans {s t u : State} (h : slotsGo s t) (h' : slotsGo t u) : slotsGo s u :=
  fun k => mayBecome_trans (h k) (h' k)

theorem slotsGo_after {s t u : State} (h' : slotsGo t u) (h : t.slots = s.slots) : slotsGo s u :=
  slotsGo_trans (slotsGo_of_slots h) h'

theorem slotsGo_then {s t u : State} (h : slotsGo s t) (h' : u.slots = t.slots) : slotsGo s u :=
  slotsGo_trans h (slotsGo_of_slots h')

/-- Steps that each let the slots go on let them go on in a row. -/
theorem slotsGo_foldl {γ : Type} (f : State → γ → State) (h : ∀ s c, slotsGo s (f s c)) (l : List γ) (s : State) :
    slotsGo s (l.foldl f s) := by
  induction l generalizing s with
  | nil => exact fun k => mayBecome_refl _
  | cons c l ih => exact slotsGo_trans (h s c) (ih (f s c))

theorem State.setOutcome_slots (s : State) (k : SlotId) (o : ParcelOutcome) : slotsGo s (s.setOutcome k o) := by
  intro j
  rw [s.slot_setOutcome]
  split
  · next h =>
    subst h
    cases s.slot j with
    | waiting c => exact .inr (.inr ⟨c, c, sameParcel_refl c, .inl rfl, .inr (.inr ⟨o, rfl⟩)⟩)
    | inFlight c => exact .inr (.inr ⟨c, c, sameParcel_refl c, .inr rfl, .inr (.inr ⟨o, rfl⟩)⟩)
    | _ => exact mayBecome_refl _
  · exact mayBecome_refl _

theorem State.setOutcomes_slots (s : State) (ks : List SlotId) (o : SlotId → ParcelOutcome) :
    slotsGo s (s.setOutcomes ks o) :=
  slotsGo_foldl _ (fun s k => s.setOutcome_slots k (o k)) ks s

theorem State.toInFlight_slots (s : State) (k : SlotId) : slotsGo s (s.toInFlight k) := by
  intro j
  rw [s.slot_toInFlight]
  split
  · next h =>
    subst h
    cases s.slot j with
    | waiting c => exact .inr (.inr ⟨c, { c with sentOnce := false }, ⟨rfl, rfl, rfl, rfl⟩, .inl rfl, .inr (.inl rfl)⟩)
    | _ => exact mayBecome_refl _
  · exact mayBecome_refl _

theorem State.toWaiting_slots (s : State) (k : SlotId) : slotsGo s (s.toWaiting k) := by
  intro j
  rw [s.slot_toWaiting]
  split
  · next h =>
    subst h
    cases s.slot j with
    | inFlight c => exact .inr (.inr ⟨c, { c with sentOnce := false }, ⟨rfl, rfl, rfl, rfl⟩, .inr rfl, .inl rfl⟩)
    | _ => exact mayBecome_refl _
  · exact mayBecome_refl _

theorem State.markSent_slots (s : State) (k : SlotId) : slotsGo s (s.markSent k) := by
  intro j
  rw [s.slot_markSent]
  split
  · next h =>
    subst h
    cases s.slot j with
    | inFlight c => exact .inr (.inr ⟨c, { c with sentOnce := true }, ⟨rfl, rfl, rfl, rfl⟩, .inr rfl, .inr (.inl rfl)⟩)
    | _ => exact mayBecome_refl _
  · exact mayBecome_refl _

theorem State.fillOutbound_slots (s : State) (k : SlotId) (d : Dest) (u : Bool) (pl : List Byte) (h : s.slot k = .free) :
    slotsGo s (s.fillOutbound k d u pl) := by
  intro j
  rw [s.slot_fillOutbound]
  split
  · next hj => subst hj; rw [h]; exact mayBecome_free _
  · exact mayBecome_refl _

theorem State.accept_slots (s : State) (k : SlotId) (p : StationId) (og : Origin) (pl : List Byte) (h : s.slot k = .free) :
    slotsGo s (s.accept k p og pl) := by
  intro j
  rw [s.slot_accept]
  split
  · next hj => subst hj; rw [h]; exact mayBecome_free _
  · exact mayBecome_refl _

/-! ### The sending side -/

theorem State.loadFrom_slots (s : State) (l : List SlotId) : slotsGo s (s.loadFrom l) := by
  induction l generalizing s with
  | nil => exact slotsGo_of_slots rfl
  | cons k ks ih =>
    unfold State.loadFrom
    split
    · exact slotsGo_trans (s.setOutcome_slots k _) (ih _)
    · exact slotsGo_then (s.toInFlight_slots k) rfl

theorem State.load_slots (s : State) : slotsGo s s.load := by
  unfold State.load
  split
  · exact s.loadFrom_slots _
  · exact slotsGo_of_slots rfl

theorem State.queueGroup_slots (s : State) (k : SlotId) (u : Bool) : slotsGo s (s.queueGroup k u) := by
  unfold State.queueGroup
  exact slotsGo_after (State.load_slots _) rfl

theorem State.endLane_slots (s : State) (l : Lane) (c : OutcomeCode) (x : Cause) : slotsGo s (s.endLane l c x) :=
  slotsGo_then (s.setOutcome_slots l.slot _) rfl

theorem State.settleLane_slots (s : State) (l : Lane) : slotsGo s (s.settleLane l) := by
  unfold State.settleLane
  repeat' split
  · exact slotsGo_trans (s.endLane_slots l _ _) (State.load_slots _)
  · exact slotsGo_trans (s.endLane_slots l _ _) (State.load_slots _)
  · exact slotsGo_of_slots rfl

theorem State.groupAnswer_slots (s : State) (m : StationId) (c : AnswerCode) (n : Seq) :
    slotsGo s (s.groupAnswer m c n) := by
  unfold State.groupAnswer
  repeat' split
  · exact slotsGo_of_slots rfl
  · exact s.settleLane_slots _
  · exact slotsGo_of_slots rfl

theorem State.memberLost_slots (s : State) (m : StationId) : slotsGo s (s.memberLost m) := by
  unfold State.memberLost
  repeat' split
  · exact slotsGo_of_slots rfl
  · exact s.settleLane_slots _
  · exact slotsGo_of_slots rfl

theorem State.laneRetry_slots (s : State) (l : Lane) : slotsGo s (s.laneRetry l) := by
  unfold State.laneRetry
  split
  · exact slotsGo_trans (s.endLane_slots l _ _) (State.load_slots _)
  · exact slotsGo_of_slots rfl

theorem State.groupPeerEvent_slots (s : State) (p : StationId) : slotsGo s (s.groupPeerEvent p) := by
  unfold State.groupPeerEvent
  exact slotsGo_after (State.memberLost_slots _ p) rfl

theorem State.withLastGroup_fold_slots (s : State) (l : List StationId) :
    slotsGo s (l.foldl (fun s p => s.withLastGroup p none) s) :=
  slotsGo_foldl (fun (s : State) p => s.withLastGroup p none) (fun _ _ => slotsGo_of_slots rfl) l s

theorem State.teardownLane_slots (s : State) (x : Cause) : slotsGo s (s.teardownLane x) := by
  unfold State.teardownLane
  split
  · exact slotsGo_of_slots rfl
  · exact s.endLane_slots _ _ _

theorem State.groupTeardown_slots (s : State) (x : Cause) : slotsGo s (s.groupTeardown x) := by
  unfold State.groupTeardown
  exact slotsGo_trans (s.teardownLane_slots x) (slotsGo_trans (State.setOutcomes_slots _ _ _)
    (slotsGo_after (State.withLastGroup_fold_slots _ _) rfl))

theorem State.terminalBreak_slots (s : State) (p : StationId) (x : Cause) : slotsGo s (s.terminalBreak p x) := by
  unfold State.terminalBreak
  split
  · exact slotsGo_of_slots rfl
  · exact slotsGo_trans (slotsGo_foldl _ (fun s _ => s.setOutcome_slots _ _) _ _)
      (slotsGo_then (State.setOutcomes_slots _ _ _) rfl)

theorem State.reopeningBreak_slots (s : State) (p : StationId) (x : Cause) : slotsGo s (s.reopeningBreak p x) := by
  unfold State.reopeningBreak
  split
  · exact slotsGo_of_slots rfl
  · exact slotsGo_trans (State.setOutcomes_slots _ _ _)
      (slotsGo_then (slotsGo_foldl _ (fun s _ => s.toWaiting_slots _) _ _) rfl)

theorem State.retryStep_slots (s : State) (p : StationId) (t : TxSession) (x : Cause) (go : TxSession → TxSession) :
    slotsGo s (s.retryStep p t x go) := by
  unfold State.retryStep
  split
  · exact slotsGo_after (State.terminalBreak_slots _ _ _) rfl
  · exact slotsGo_of_slots rfl

theorem State.windowResult_slots (s : State) (p : StationId) (q : Seq) (b : Bool) : slotsGo s (s.windowResult p q b) := by
  unfold State.windowResult
  split
  · exact slotsGo_of_slots rfl
  · split
    · exact slotsGo_of_slots rfl
    · cases b
      · exact slotsGo_of_slots rfl
      · exact slotsGo_then (s.markSent_slots _) rfl

theorem State.dataAnswer_slots (s : State) (p : StationId) (c : AnswerCode) (n : Seq) : slotsGo s (s.dataAnswer p c n) := by
  have hact : ∀ (u : State) (t : TxSession) (gone rest : List WindowEntry), slotsGo u (u.actOnAnswer p t c gone rest) := by
    intro u t gone rest
    unfold State.actOnAnswer
    repeat' split
    all_goals first
      | exact slotsGo_of_slots rfl
      | exact State.retryStep_slots _ _ _ _ _
      | exact slotsGo_after (State.terminalBreak_slots _ _ _) rfl
  unfold State.dataAnswer
  repeat' split
  · exact slotsGo_of_slots rfl
  · exact slotsGo_of_slots rfl
  · exact s.reopeningBreak_slots _ _
  · exact slotsGo_of_slots rfl
  · exact slotsGo_trans (State.setOutcomes_slots _ _ _) (hact _ _ _ _)

theorem State.peerAbsent_slots (s : State) (p : StationId) (x : Cause) : slotsGo s (s.peerAbsent p x) := by
  have h1 : slotsGo s (s.withPresence p .absent 0 0) := slotsGo_of_slots rfl
  have h2 : slotsGo s ((s.withPresence p .absent 0 0).withRx p none) := slotsGo_then h1 rfl
  exact slotsGo_trans (slotsGo_trans h2 (State.terminalBreak_slots _ p x)) (State.groupPeerEvent_slots _ p)

theorem State.peerRestart_slots (s : State) (p : StationId) : slotsGo s (s.peerRestart p) := by
  have h : slotsGo s (s.withRx p none) := slotsGo_of_slots rfl
  exact slotsGo_trans (slotsGo_trans h (State.reopeningBreak_slots _ p _)) (State.groupPeerEvent_slots _ p)

theorem State.age_slots (s : State) : slotsGo s s.age := by
  refine slotsGo_trans (slotsGo_foldl _ (fun s p => ?_) _ _) (slotsGo_foldl _ (fun s p => ?_) _ _)
  · unfold State.ageOne
    split <;> exact slotsGo_of_slots rfl
  · unfold State.loseOne
    split
    · exact slotsGo_then (s.peerAbsent_slots p _) rfl
    · exact slotsGo_of_slots rfl

theorem State.withRx_fold_slots (s : State) (l : List StationId) :
    (l.foldl (fun s' p => s'.withRx p none) s).slots = s.slots :=
  foldl_keeps State.slots (fun (s' : State) p => s'.withRx p none) (fun _ _ => rfl) l s

theorem State.sessionTeardown_slots (s : State) (x : Cause) : slotsGo s (s.sessionTeardown x) := by
  unfold State.sessionTeardown
  generalize allStations = l
  have h : slotsGo s (l.foldl (fun s' p => s'.terminalBreak p x) s) :=
    slotsGo_foldl _ (fun s p => s.terminalBreak_slots p x) _ _
  exact slotsGo_then h (State.withRx_fold_slots _ l)

theorem State.teardown_slots (s : State) (x : Cause) : slotsGo s (s.teardown x) := by
  unfold State.teardown
  exact slotsGo_trans (s.sessionTeardown_slots x) (slotsGo_trans (State.groupTeardown_slots _ x)
    (slotsGo_then (slotsGo_of_slots (by simp)) rfl))

end Sys2Proof.Machine
end

