-- ==== Sys2Proof/Tests/Slice0.lean ====
section
/-!
SUPPORT. Small checks of the model against the manual's own examples and tables, the smoke tests of WellFormed, and for each
statement of Certificates/Slice0/Obligations.lean a state and operands that meet its hypotheses.
-/
namespace Sys2Proof.Tests

open Sys2Proof Sys2Proof.Machine Sys2Proof.Safety

set_option Elab.async false

/-! ## Small states -/

/-- The state that one row leaves. -/
def one (c : Instr) (s : State) : State :=
  match exec c s with
  | .next t => t
  | _ => s

/-- Station `own` in state `st`, with these peers PRESENT with their groups, and every other record at reset. -/
def station (own : StationId) (st : StationState) (peers : List (StationId × GroupSet)) : State :=
  { State.reset with
    mu := { State.reset.mu with station := st, number := own }
    peers := peers.foldl (fun v x => v.set x.1.val { PeerEntry.empty .present with groups := x.2 } x.1.isLt)
      ((Vector.replicate 32 (PeerEntry.empty .absent)).set own.val (PeerEntry.empty .self) own.isLt) }

/-- A parcel with ticket `n`. -/
def parcelOf (n : Nat) (d : Dest) (sentOnce : Bool) : Parcel := ⟨BitVec.ofNat 16 n, d, false, [0x55], sentOnce⟩

/-- A tx session in OPEN with this window and next sequence. -/
def openSession (window : List WindowEntry) (next : Seq) : TxSession :=
  { state := .opened, waiting := [], window := window, nextSeq := next, resend := none, retry := 0, hold := 0, held := false,
    holdTimer := none, answerTimer := some 20, openDue := false, refusalPause := false, openOnLine := false }

/-- Station 10 of Table 6-2 at step 6: P3 and P4 in the window with sequences 7 and 0, both sent, next sequence 1. -/
def table62 : State :=
  (((station 10 .member [(4, 0)]).withSlot 2 (.inFlight (parcelOf 3 (.station 4) true))).withSlot 3
    (.inFlight (parcelOf 4 (.station 4) true))).withTx 4 (some (openSession [⟨2, 7⟩, ⟨3, 0⟩] 1))

/-- Station 4 of Table 7-4 at step 1: e = 7 for station 10, and every slot taken. -/
def table74 : State :=
  { (station 4 .member [(10, 0)]).withRx 10 (some 7) with
    slots := Vector.replicate 40 (.delivered 10 .direct [1]), delivered := allSlots }

/-- Station 7 of Table 8-3 after step 3: the lane holds ticket 61 with roster 3, 8, 12, and station 3 has answered. -/
def table83 : State :=
  { (station 7 .member [(3, 4), (8, 4), (12, 4), (20, 0)]).withSlot 0 (.inFlight (parcelOf 61 (.group 2) false)) with
    gu := { waiting := [], counter := 5
            lane := some { slot := 0, group := 2, seq := 4, roster := 0x1108, pending := 0x1100, answered := 0x8, lost := 0,
                           retry := 0, sentOnce := true, frameDue := false, timer := some 20 } } }

/-- The queue of Table 7-5 at step 3. -/
def table75 : List AnswerEntry := [⟨10, .data, .taken, 3, true⟩, ⟨12, .data, .taken, 5, false⟩]

/-! ## The line and its frames -/

/-- Table 1-2. -/
theorem test_stuffing : (stuffFrom dominant 1
      [false, false, false, true, true, true, true, true, false, false, false, false, false]).map (·.level) =
    [false, false, false, true, true, true, true, false, true, true, false, false, false, false, true, false] := by decide

/-- The example of section 11.1: header bits 00 00100 001010 010 111 0000001. -/
theorem test_header : (Msg.answer 4 10 .data .taken 7).toFrame.headerBits =
      [false, false, false, false, true, false, false, false, false, true, false, true, false, false, true, false, true, true,
       true, false, false, false, false, false, false, true] ∧
    (Msg.answer 4 10 .data .taken 7).toFrame.payload = [0x00] := by decide

/-- A mark is 0x7E, first bit most significant (section 11.1). -/
theorem test_mark : natOf (markBits.map (·.level)) = 0x7E := by decide

/-- The arbitration fields of section 3.11: 11 00010 and 11 01001. -/
theorem test_arbitration : (Msg.data false 2 8 0 []).toFrame.headerBits.take 7 = [true, true, false, false, false, true, false] ∧
    (Msg.data false 9 8 0 []).toFrame.headerBits.take 7 = [true, true, false, true, false, false, true] := by decide

/-- The checks of Table 2-5: a stuff bit due, too few bits, a wrong CRC. -/
theorem test_checks : checkClosed true 0xFFFF (List.replicate 50 false) = none ∧
    checkClosed false 0xFFFF (List.replicate 41 false) = none ∧
    checkClosed false 0x0001 (List.replicate 42 false) = none := by decide +kernel

/-- Table 1-1: BT and the sample point in CLKIN periods. -/
theorem test_bit_clocks : [0, 1, 2, 3].map bitClocks = [128, 64, 32, 16] ∧ [0, 1, 2, 3].map sampleClocks = [80, 40, 20, 10] := by
  decide

/-! ## The host port -/

/-- Bytes written out from Tables 11-4 and 11-6 are read as their rows; filler follows some of them. -/
theorem test_decode_commands : [[1, 0x00, 0], [2, 0x01, 0, 0xFF], [3, 0x02, 1, 31], [4, 0x10, 5, 10, 20, 5, 4, 6], [5, 0x11, 0],
      [6, 0x12, 0], [7, 0x13, 0], [8, 0x1F, 0], [9, 0x20, 3, 35, 2, 0x55], [10, 0x21, 2, 0x12, 0x34], [11, 0x30, 0, 0xFF, 0xFF],
      [12, 0x31, 0], [13, 0x20, 1, 4], [14, 0x44, 0], [15, 0x02, 1], [16]].map (decodeTransaction 6 2) =
    [.nop 1, .status 2, .peer 3 31, .configure 4 10 20 5 4 6, .join 5, .leave 6, .resume 7, .restart 8 6 2, .post 9 35 2 [0x55],
     .cancel 10 0x1234, .fetch 11, .report 12, .badCommand 13 0x20 [4], .badCommand 14 0x44 [], .incompleteTransaction [15, 0x02, 1],
     .incompleteTransaction [16]] := by decide

/-- The STATUS record after reset: DETACHED, line ACTIVE, 40 slots FREE (Tables 9-4 and 11-8). -/
theorem test_status : (one (.status 9) .reset).reply = ⟨9, 0x01, .ok, [0, 0, 0, 1, 0, 0, 0, 0, 40, 0, 0, 0, 0, 0]⟩ := by
  decide +kernel

/-- R87: from 65534 on, with tickets 1 and 2 live. -/
theorem test_tickets : advanceTicket (fun t => t = 1 || t = 2) 32 65534 = 65535 ∧
    advanceTicket (fun t => t = 1 || t = 2) 32 65535 = 3 := by decide

/-- Table 10-5, step 2: the oldest notice goes from behind the outcome entry, and the new one carries MISSED. -/
theorem test_displacement :
    reportWithNotice (.outcome 7 :: List.replicate 15 (.notice .peerJoined (some 4) false) ++ [.outcome 8, .notice .lineHeld none false])
        .lineReleased none =
      .outcome 7 :: List.replicate 14 (.notice .peerJoined (some 4) false) ++
        [.outcome 8, .notice .lineHeld none false, .notice .lineReleased none true] := by decide

/-! ## Joining, sessions, answers and the lane -/

/-- Table 4-5: JOIN with the default roll interval starts the join timer at 200 ms; its expiry makes the station MEMBER. -/
theorem test_join : (one (.join 1) (station 5 .detached [])).mu.joinTimer = some 200 ∧
    (one .joinTimerExpiry (one (.join 1) (station 5 .detached []))).mu.rollTimer = some 100 := by decide +kernel

/-- Table 6-2, steps 7 and 9: the GAP rewinds to sequence 7, and TAKEN with number 0 takes one entry. -/
theorem test_gap : ((one (.answerData 4 10 .gap 7) table62).tx 4).map (fun t => (t.resend, t.retry, t.answerTimer)) =
      some (some 7, 1, none) ∧
    ((one (.answerData 4 10 .taken 0) table62).tx 4).map (·.window) = some [⟨3, 0⟩] := by decide +kernel

/-- Table 7-4, steps 2, 3 and 6 (there with e = 0). -/
theorem test_data : (one (.data false 10 4 7 [2]) table74).answers = [⟨10, .data, .hold, 7, false⟩] ∧
    (one (.data false 10 4 6 [2]) table74).answers = [⟨10, .data, .taken, 7, false⟩] ∧
    (one (.data false 10 4 1 [2]) (table74.withRx 10 (some 0))).answers = [⟨10, .data, .gap, 0, false⟩] := by decide +kernel

/-- Table 7-5, steps 4, 6 and 7. -/
theorem test_answers : placeInQueue table75 10 .data .taken 4 = table75 ++ [⟨10, .data, .taken, 4, false⟩] ∧
    placeInQueue (table75 ++ [⟨10, .data, .taken, 4, false⟩]) 10 .data .hold 4 = table75 ++ [⟨10, .data, .hold, 4, false⟩] ∧
    queueAfterResult (table75 ++ [⟨10, .data, .hold, 4, false⟩]) false =
      [⟨12, .data, .taken, 5, false⟩, ⟨10, .data, .hold, 4, false⟩] := by decide

/-- Table 8-3, steps 4, 8 and 9: a wrong number is ignored, station 8's restart moves it to lost, and station 12's TAKEN ends
the parcel PARTIAL with MEMBER-LOST, answered 3 and 12, missing 8. -/
theorem test_lane : (one (.answerGroup 12 7 .taken 3) table83).gu = table83.gu ∧
    ((one (.roll 8 0 4 0x80) table83).gu.lane).map (fun l => (l.pending, l.lost)) = some (0x1000, 0x100) ∧
    (one (.answerGroup 12 7 .taken 4) (one (.roll 8 0 4 0x80) table83)).slot 0 =
      .done (parcelOf 61 (.group 2) false) ⟨.partly, .memberLost, some (0x1008, 0x100)⟩ := by decide +kernel

/-! ## WellFormed refuses what is no instance of its row -/

/-- Complete bytes are no INCOMPLETE_TRANSACTION. -/
theorem test_wf_incomplete : (Instr.incompleteTransaction [1, 0, 0]).wellFormed = false := by decide

/-- A known code with its length, and more than 72 arguments, are no BAD_COMMAND. -/
theorem test_wf_bad_command : (Instr.badCommand 1 0x11 []).wellFormed = false ∧
    (Instr.badCommand 1 0x11 (List.replicate 73 0)).wellFormed = false := by decide

/-- POST carries at most 70 payload bytes. -/
theorem test_wf_post : (Instr.post 1 4 2 (List.replicate 71 0)).wellFormed = false := by decide

/-- Both ROLL flags set (R190). -/
theorem test_wf_roll : (Instr.roll 4 0 0 0xC0).wellFormed = false ∧ (Instr.clash (.roll 4 0 0 0xC0)).wellFormed = false := by decide

/-- A frame to its own source, and a payload of 65 bytes (Table 2-6). -/
theorem test_wf_frames : (Instr.openFrame 4 4 0).wellFormed = false ∧ (Instr.data true 4 4 0 []).wellFormed = false ∧
    (Instr.answerData 4 4 .taken 0).wellFormed = false ∧ (Instr.answerOpen 4 4 .taken 0).wellFormed = false ∧
    (Instr.answerGroup 4 4 .taken 0).wellFormed = false ∧
    (Instr.data true 4 5 0 (List.replicate 65 0)).wellFormed = false ∧
    (Instr.group true 4 1 0 (List.replicate 65 0)).wellFormed = false := by decide

/-- No bit has 128 CLKIN periods after its first (Table 1-1). -/
theorem test_wf_edge : (Instr.resynchronisation 128).wellFormed = false := by decide

/-- No word spells a command, and `withFetchWord` changes nothing. -/
theorem test_no_words : decodeTableWord 16 0x1234 = none ∧ State.reset.withFetchWord 16 0x1234 = State.reset := ⟨rfl, rfl⟩

/-! ## The hypotheses of the statements are met

`test_witness_<Name>` belongs to `Obligations.<Name>`: states and operands that meet its hypotheses together, clause by clause. -/

/-- A Bool form of `parcelsHeldOnce`. -/
def heldOnce (s : State) : Bool :=
  allSlots.all (fun k => (waitingRefs s).count k == (if isWaiting (s.slot k) then 1 else 0)) &&
  allSlots.all (fun k => (flightRefs s).count k == (if isInFlight (s.slot k) then 1 else 0)) &&
  allStations.all (fun p =>
    match s.tx p with
    | none => true
    | some t =>
      t.waiting.all (fun w => decide (destOf (s.slot w.slot) = some (.station p))) &&
      t.window.all (fun e => decide (destOf (s.slot e.slot) = some (.station p))) && decide (t.state = .opening → t.window = [])) &&
  s.gu.waiting.all (fun k => (List.finRange 8).any fun g => decide (destOf (s.slot k) = some (.group g))) &&
  match s.gu.lane with
  | none => true
  | some l => (List.finRange 8).any fun g => decide (destOf (s.slot l.slot) = some (.group g))

theorem parcelsHeldOnce_of {s : State} (h : heldOnce s = true) : parcelsHeldOnce s := by
  simp only [heldOnce, Bool.and_eq_true, List.all_eq_true] at h
  obtain ⟨⟨⟨⟨h1, h2⟩, h3⟩, h4⟩, h5⟩ := h
  refine ⟨fun k => by simpa using h1 k (List.mem_finRange k), fun k => by simpa using h2 k (List.mem_finRange k), ?_, ?_, ?_⟩
  · intro p t ht
    have := h3 p (List.mem_finRange p)
    simp only [ht, Bool.and_eq_true, List.all_eq_true, decide_eq_true_eq] at this
    exact ⟨this.1.1, this.1.2, this.2⟩
  · intro k hk
    have := h4 k hk
    simp only [List.any_eq_true, decide_eq_true_eq] at this
    obtain ⟨g, -, hg⟩ := this
    exact ⟨g, hg⟩
  · intro l hl
    rw [hl] at h5
    simp only [List.any_eq_true, decide_eq_true_eq] at h5
    obtain ⟨g, -, hg⟩ := h5
    exact ⟨g, hg⟩

/-- A Bool form of `runsFrom`. -/
def runs (o : Seq) : List WindowEntry → Bool
  | [] => true
  | e :: rest => decide (e.seq = o) && runs (o + 1) rest

theorem runsFrom_of {o : Seq} {l : List WindowEntry} (h : runs o l = true) : runsFrom o l := by
  induction l generalizing o with
  | nil => trivial
  | cons e rest ih =>
    simp only [runs, Bool.and_eq_true, decide_eq_true_eq] at h
    exact ⟨h.1, ih h.2⟩

/-- A Bool form of `sessionsBounded`. -/
def bounded (s : State) : Bool :=
  allStations.all fun p =>
    match s.tx p with
    | none => true
    | some t =>
      runs t.oldest t.window && decide (t.window.length ≤ s.cfg.window ∧ t.nextSeq = t.oldest + Fin.ofNat 8 t.window.length ∧
        (t.state = .opening → t.window = [] ∧ t.waiting ≠ []) ∧ t.retry ≤ s.cfg.retryLimit ∧ t.hold ≤ 15)

theorem sessionsBounded_of {s : State} (h : bounded s = true) : sessionsBounded s := by
  intro p t ht
  simp only [bounded, List.all_eq_true] at h
  have := h p (List.mem_finRange p)
  simp only [ht, Bool.and_eq_true, decide_eq_true_eq] at this
  obtain ⟨h1, h2, h3, h4, h5, h6⟩ := this
  exact ⟨h2, runsFrom_of h1, h3, h4, h5, h6⟩

/-- Station 5 with parcels everywhere: to station 2 a session in OPEN with slot 0 sent once and slot 1 never sent in its window and
slot 2 waiting, to station 3 one in OPENING with slot 3 waiting, the lane BUSY with slot 4, slot 5 waiting for it, slot 6 DONE and
slot 7 DELIVERED. -/
def busy : State :=
  { station 5 .member [(2, 1), (3, 3)] with
    slots := (((((((((Vector.replicate 40 .free).set 0 (.inFlight (parcelOf 1 (.station 2) true))).set 1
      (.inFlight (parcelOf 2 (.station 2) false))).set 2 (.waiting (parcelOf 3 (.station 2) false))).set 3
      (.waiting (parcelOf 4 (.station 3) false))).set 4 (.inFlight (parcelOf 5 (.group 0) false))).set 5
      (.waiting (parcelOf 6 (.group 1) false))).set 6 (.done (parcelOf 7 (.station 2) true) ⟨.delivered, .none, none⟩))).set 7
      (.delivered 2 .direct [9])
    ticket := 8, delivered := [7], report := [.outcome 6]
    gu := { waiting := [5], counter := 3
            lane := some { slot := 4, group := 0, seq := 2, roster := 0xC, pending := 0xC, answered := 0, lost := 0, retry := 5,
                           sentOnce := true, frameDue := false, timer := some 20 } }
    cfg := { State.reset.cfg with groups := 3 }
    peers := (((station 5 .member [(2, 1), (3, 3)]).withTx 2
      (some { openSession [⟨0, 6⟩, ⟨1, 7⟩] 0 with waiting := [⟨2, false⟩] })).withTx 3 (some (newSession 3))).peers }

/-- `busy` with its session to station 2 changed. -/
def busyWith (f : TxSession → TxSession) : State :=
  busy.withTx 2 ((busy.tx 2).map f)

theorem busy_held : parcelsHeldOnce busy := parcelsHeldOnce_of (by decide +kernel)

/-- A line after this many samples of one level. -/
def run (line : LineState) (b : Level) (n : Nat) (sampled : Bool) : LineMonitor :=
  { line := line, polarity := some b, runLength := n, firstRun := false, quietRun := if b then n else 0, sampled := sampled }

/-- The attempt of station 5 with a DATA frame to station 2, in this state, with so many line bits sent and this level on LOUT. -/
def attempt (st : TransmitState) (sent : Nat) (lout : Level) : TransmitUnit :=
  { TransmitUnit.reset with
    state := st, buffer := some ⟨(Msg.data false 5 2 6 [0x55]).toFrame, .window 2 6, some 2⟩, lineBits := sent, lout := lout }

theorem test_witness_StepRunsFrontCommand :
    ({ State.reset with pending := [.nop 1] } : State).pending = .nop 1 :: [] ∧ State.reset.pending = [] := by decide

theorem test_witness_Resets : takes State.reset ∧ takes { busy with port := .taking [] } := by decide +kernel

theorem test_witness_NothingActs : (one .hardwareReset busy).inReset = true ∧ isLineRow (.lineSample false) = true ∧
    isLineRow .startPoint = true ∧ rowOf (.openReq 2 5 0) = .openFrame 2 5 0 ∧ isTransactionEnd (.nop 1) = true ∧
    (Instr.nop 1).wellFormed = true ∧ ¬ takes (one .hardwareReset busy) ∧ ¬ takes { State.reset with port := .ignoring } := by
  decide +kernel

theorem test_witness_TransactionBegins : (busy.port = .idle ∧ busy.inReset = false) ∧
    ((one .hardwareReset busy).port = .idle ∧ (one .hardwareReset busy).inReset = true) ∧ ([1, 0] : List Byte).length < 3 ∧
    72 < (73 : Byte).toNat ∧ ([4] : List Byte).length < (2 : Byte).toNat ∧ (List.replicate 7 recessive).length < 8 ∧
    (List.replicate 23 recessive).length < 24 := by decide +kernel

/-- R160, by hand: tag 0x81 as 10000001, seven bits of the next byte discarded; and the reply's first byte on SDO. -/
theorem test_spi_bits : sdiBytes ([true, false, false, false, false, false, false, true] ++ List.replicate 7 true) = [0x81] ∧
    [0, 1, 2, 7, 8].map ({ State.reset with port := .taking [0xA1, 0x80] } : State).sdoBit =
      [some true, some false, some true, some true, some true] ∧ State.reset.sdoBit 0 = none := by decide +kernel

theorem test_witness_BadCommand : takes busy ∧ (List.replicate 72 (0 : Byte)).length ≤ 72 ∧
    ((0x20 : Byte) ≠ 0x20 ∨ ([4] : List Byte).length < 2) ∧ ((0x02 : Byte) ≠ 0x02 ∨ ([] : List Byte).length ≠ 1) ∧
    (∀ code ∈ ([0x00, 0x01, 0x02, 0x10, 0x11, 0x12, 0x13, 0x1F, 0x20, 0x21, 0x30, 0x31] : List Byte), (0x03 : Byte) ≠ code) := by
  decide +kernel

theorem test_witness_NopAndStatus : takes busy ∧ deliveredMatches busy ∧ reportMatches busy := by
  refine ⟨by decide +kernel, ?_, ?_, ?_⟩
  · unfold deliveredMatches; decide +kernel
  · decide +kernel
  · decide +kernel

theorem test_witness_Peer : takes busy ∧ 32 ≤ (32 : Byte).toNat ∧ (31 : Byte).toNat = (31 : StationId).val ∧
    ((5 : Byte).toNat = (5 : StationId).val ∧ (5 : StationId) = busy.mu.number ∧ (busy.peer 5).presence = .self) ∧
    ((2 : StationId) ≠ busy.mu.number ∧ (busy.peer 2).presence ≠ .self) := by decide +kernel

theorem test_witness_Configure : takes busy ∧ busy.mu.station ≠ .detached ∧ takes State.reset ∧ State.reset.mu.station = .detached ∧
    (1 : Byte).toNat < 2 ∧ 250 < (251 : Byte).toNat ∧ (0 : Byte).toNat < 1 ∧ 15 < (16 : Byte).toNat ∧ 4 < (5 : Byte).toNat ∧
    (2 ≤ (2 : Byte).toNat ∧ (250 : Byte).toNat ≤ 250 ∧ 1 ≤ (1 : Byte).toNat ∧ (15 : Byte).toNat ≤ 15 ∧ (4 : Byte).toNat ≤ 4) := by
  decide +kernel

theorem test_witness_JoinAndResume : takes State.reset ∧ State.reset.mu.station = .detached ∧ takes (station 5 .silenced []) ∧
    (station 5 .silenced []).mu.station = .silenced ∧ (station 5 .halted []).mu.station = .halted ∧
    takes (station 5 .halted []) ∧ (station 5 .halted []).mu.station ≠ .detached ∧
    (station 5 .halted []).mu.station ≠ .silenced := by decide +kernel

theorem test_witness_Leave : (takes (station 5 .joining [(2, 0)]) ∧ (station 5 .joining [(2, 0)]).mu.station = .joining) ∧
    takes (station 5 .silenced []) ∧ (takes busy ∧ busy.mu.station = .member ∧ parcelsHeldOnce busy) :=
  ⟨by decide +kernel, by decide +kernel, by decide +kernel, by decide +kernel, busy_held⟩

/-- One witness for each of the five checks; a payload of 64 bytes passes check 2 and one of 65 does not. -/
theorem test_witness_PostRefused :
    (takes State.reset ∧ State.reset.mu.station ≠ .member) ∧ (takes busy ∧ busy.mu.station = .member) ∧
    64 < (List.replicate 65 (0 : Byte)).length ∧ ((4 : Byte) ≠ 2 ∧ (4 : Byte) ≠ 3) ∧
    ¬ (64 < (List.replicate 64 (0 : Byte)).length ∨ ((2 : Byte) ≠ 2 ∧ (2 : Byte) ≠ 3)) ∧ 40 ≤ (40 : Byte).toNat ∧
    (5 : Byte).toNat = busy.mu.number.val ∧ ¬ (40 ≤ (31 : Byte).toNat ∨ (31 : Byte).toNat = busy.mu.number.val) ∧
    ((31 : Byte).toNat = (31 : StationId).val ∧ (busy.peer 31).presence ≠ .present) ∧
    (takes { table74 with port := .idle } ∧ table74.mu.station = .member ∧ (table74.peer 10).presence = .present ∧
      ∀ k : SlotId, table74.slot k ≠ .free) := by decide +kernel

theorem test_witness_PostToStation : takes busy ∧ busy.mu.station = .member ∧ (List.replicate 64 (0 : Byte)).length ≤ 64 ∧
    (2 : Byte).toNat = (2 : StationId).val ∧ (2 : StationId) ≠ busy.mu.number ∧ (busy.peer 2).presence = .present ∧
    busy.countSlots Slot.isOutbound < 32 ∧ busy.slot 8 = .free ∧ (∀ j : SlotId, j < 8 → busy.slot j ≠ .free) ∧
    (((station 5 .member [(2, 1)]).peer 2).tx = none) ∧ ((busy.peer 2).tx.map (·.waiting)) = some [⟨2, false⟩] ∧
    (one (.post 1 2 2 []) busy).urgentSlot 2 = false := by decide +kernel

theorem test_witness_PostToGroup : (takes busy ∧ busy.mu.station = .member ∧ (39 : Byte).toNat = 32 + (7 : GroupId).val ∧
      (32 : Byte).toNat = 32 + (0 : GroupId).val ∧ busy.countSlots Slot.isOutbound < 32 ∧ busy.slot 8 = .free ∧
      (∀ j : SlotId, j < 8 → busy.slot j ≠ .free) ∧ busy.gu.lane ≠ none ∧ busy.gu.waiting = [5]) ∧
    ((station 5 .member [(2, 1)]).gu.lane = none ∧ (station 5 .member [(2, 1)]).gu.waiting = [] ∧
      (allStations.filter fun p => decide (((station 5 .member [(2, 1)]).peer p).presence = .present) &&
        hasGroup ((station 5 .member [(2, 1)]).peer p).groups 7) = [] ∧
      (allStations.filter fun p => decide (((station 5 .member [(2, 1)]).peer p).presence = .present) &&
        hasGroup ((station 5 .member [(2, 1)]).peer p).groups 0) = [2]) := by decide +kernel

theorem test_witness_Cancel : takes busy ∧ (busy.slot 2 = .waiting (parcelOf 3 (.station 2) false) ∧
      (∀ j : SlotId, (busy.slot j).waitingParcel.map (·.ticket) = some 3#16 → j = 2) ∧ (busy.peer 2).tx.isSome = true) ∧
    (busy.slot 3 = .waiting (parcelOf 4 (.station 3) false) ∧ ((busy.peer 3).tx.map (·.state)) = some .opening) ∧
    (busy.slot 5 = .waiting (parcelOf 6 (.group 1) false)) ∧
    (busy.slot 0 = .inFlight (parcelOf 1 (.station 2) true) ∧ ∀ j : SlotId, (busy.slot j).waitingParcel.map (·.ticket) ≠ some 1#16) ∧
    (∀ j : SlotId, (busy.slot j).waitingParcel.map (·.ticket) ≠ some 0#16 ∧
      (busy.slot j).inFlightParcel.map (·.ticket) ≠ some 0#16) := by decide +kernel

theorem test_witness_FetchAndReport : (takes State.reset ∧ State.reset.delivered = [] ∧ State.reset.report = []) ∧
    (takes busy ∧ busy.delivered = [7] ∧ busy.slot 7 = .delivered 2 .direct [9] ∧ busy.report = [.outcome 6] ∧
      busy.slot 6 = .done (parcelOf 7 (.station 2) true) ⟨.delivered, .none, none⟩) ∧
    (one .joinTimerExpiry (one (.join 1) .reset)).report = [.notice .joinDone none false] := by decide +kernel

theorem test_witness_NoticesAndAtn : noticeCount (List.replicate 15 (.notice .left none false)) < 16 ∧
    (noticeCount (.outcome 6 :: List.replicate 16 (.notice .left none false)) = 16 ∧
      (.outcome 6 :: List.replicate 16 (.notice .left none false) : List ReportEntry) =
        [.outcome 6] ++ .notice .left none false :: List.replicate 15 (.notice .left none false)) := by decide

theorem test_witness_BitBoundaries : (busy.inReset = false ∧ ({ busy with lm := run .active true 9 true } : State).lm.sampled = true ∧
      (run .active true 9 true).quietRun < 10 ∧ busy.tu.state ≠ .breakoff) ∧
    (79 < bitClocks 0 ∧ 79 < sampleClocks 0 ∧ busy.lm.sampled = false ∧ (run .active true 9 true).sampled = true) ∧ (sampleClocks 0 ≤ 80 ∧ 80 < bitClocks 0) ∧
    (attempt .send 10 dominant).lout = dominant ∧ busy.tu.lout = recessive := by decide +kernel

/-- The levels of a first bit, of the last one of a mark and of the last one of a frame; a break-off on a line that stays QUIET. -/
theorem test_witness_BitBoundaries_level : (10 ≤ (run .quiet true 10 true).quietRun ∧ (attempt .breakoff 40 dominant).state ≠ .wait ∧
      (attempt .breakoff 40 dominant).breakoffBits < 12) ∧
    ((attempt .contend 0 dominant).buffer.bind fun x => x.frame.lineBits[0]?) = some ⟨dominant, false⟩ ∧
    ((attempt .contend 7 recessive).buffer.bind fun x => x.frame.lineBits[7]?) = some ⟨dominant, false⟩ ∧
    ((attempt .send 0 dominant).buffer.bind fun x => x.frame.lineBits.getLast?) = some ⟨dominant, false⟩ := by decide +kernel

/-- A boundary value of the run length for each clause: the 32nd sample of a run, the first of one, and the tenth recessive. -/
theorem test_witness_SampleUpdatesRecord : bitOpen busy ∧ busy.lm.polarity = none ∧ lineConsistent busy ∧
    lineConsistent { busy with lm := run .active false 31 false } ∧ lineConsistent { busy with lm := run .active true 9 false } ∧
    lineConsistent { busy with lm := run .quiet true 32 false } := by
  refine ⟨by decide +kernel, by decide +kernel, ?_, ?_, ?_, ?_⟩ <;> (unfold lineConsistent; decide +kernel)

/-- The Frame Receiver in GATHER with seven bits held back. -/
def gathering (content : Nat) (due : Bool) : FrameReceiver :=
  { FrameReceiver.reset with
    state := .gather, holdBack := List.replicate 7 true, runValue := true, runCount := if due then 4 else 1, stuffDue := due,
    content := List.replicate content true }

/-- A bit of an own attempt after the opening mark: the Frame Receiver gathers the own frame. -/
def ownBit (st : TransmitState) (sent : Nat) (lout : Level) : State :=
  { busy with lm := run .active true 1 false, fr := gathering (sent - 15) false, tu := attempt st sent lout }

theorem test_witness_PlainBits :
    (bitOpen { busy with lm := run .active true 1 false } ∧ busy.tu.state = .wait ∧ busy.fr.state = .seek ∧
      plainSample { busy with lm := run .active true 1 false } true ∧
      plainSample { busy with lm := run .active true 1 false } false) ∧
    ((gathering 554 false).state = .gather ∧ (gathering 554 false).holdBack = true :: List.replicate 6 true ∧
      (gathering 554 false).content.length = 554 ∧ (gathering 553 false).content.length ≠ 554) ∧
    ((gathering 16 true).stuffDue = true ∧ true = (gathering 16 true).runValue ∧ false ≠ (gathering 16 true).runValue) ∧
    (bitOpen (ownBit .contend 13 recessive) ∧ noLineEvent (ownBit .contend 13 recessive) recessive ∧
      noClose (ownBit .contend 13 recessive) recessive ∧ (ownBit .contend 13 recessive).tu.state = .contend ∧
      (ownBit .contend 13 recessive).fr.state = .gather) ∧
    (noLineEvent (ownBit .send 40 dominant) dominant ∧ noClose (ownBit .send 40 dominant) dominant ∧
      (ownBit .send 40 dominant).tu.state = .send ∧ (ownBit .send 40 dominant).tu.bits.length ≠ 41) ∧
    (noLineEvent (ownBit .breakoff 40 dominant) dominant ∧ noClose (ownBit .breakoff 40 dominant) dominant ∧
      (ownBit .breakoff 40 dominant).tu.state = .breakoff) ∧
    (noLineEvent { busy with lm := run .active true 6 false } recessive ∧
      (run .active true 6 false).reportOn recessive = some .violation) ∧
    (noClose { busy with lm := run .active true 6 false } dominant ∧ ({ busy with lm := run .active true 6 false } : State).fr.state =
      .seek) := by decide +kernel

theorem test_witness_QuietAndHeldLine :
    (bitOpen { busy with lm := run .active true 9 false } ∧ lineConsistent { busy with lm := run .active true 9 false } ∧
      busy.tu.state = .wait ∧ busy.fr.state = .seek) ∧
    (lineConsistent { busy with lm := run .quiet true 23 false }) ∧
    (bitOpen { busy with lm := run .active false 31 false } ∧ lineConsistent { busy with lm := run .active false 31 false }) ∧
    (attempt .contend 0 dominant).lout = dominant ∧ lineConsistent { busy with lm := run .held false 32 false } := by
  refine ⟨⟨by decide +kernel, ?_, by decide +kernel, by decide +kernel⟩, ?_, ⟨by decide +kernel, ?_⟩, by decide +kernel, ?_⟩ <;>
    (unfold lineConsistent; decide +kernel)

theorem test_witness_ViolationAndMark : bitOpen { busy with lm := run .active false 4 false, fr := gathering 0 false } ∧
    lineConsistent { busy with lm := run .active false 4 false } ∧ lineConsistent { busy with lm := run .active true 6 false } ∧
    lineConsistent { busy with lm := run .active true 5 false } ∧
    lineConsistent { busy with lm := { run .active true 6 false with firstRun := true } } ∧
    ((run .active true 1 false).reportOn true = none ∧ (gathering 3 true).holdBack = true :: List.replicate 6 true) := by
  refine ⟨by decide +kernel, ?_, ?_, ?_, ?_, by decide +kernel⟩ <;> (unfold lineConsistent; decide +kernel)

/-- The frame of an OPEN from station 2 to station 5, gathered up to its closing mark, and one with the own number. -/
def gathered (src dst : StationId) : FrameReceiver :=
  { gathering 0 false with
    content := (Msg.openReq src dst 0).toFrame.content, crc := crcOf (Msg.openReq src dst 0).toFrame.bodyBits }

theorem test_witness_FrameClose : bitOpen { busy with lm := run .active true 6 false, fr := gathered 2 5 } ∧
    lineConsistent { busy with lm := run .active true 6 false } ∧ (gathered 2 5).state = .gather ∧
    checkClosed false (gathered 2 5).crc (gathered 2 5).content = some (.openReq 2 5 0) ∧
    checkClosed false (gathered 5 2).crc (gathered 5 2).content = some (.openReq 5 2 0) ∧
    checkClosed true (gathered 2 5).crc (gathered 2 5).content = none ∧
    (attempt .send ((attempt .send 0 false).bits.length - 1) false).bits.length =
      (attempt .send ((attempt .send 0 false).bits.length - 1) false).lineBits + 1 := by
  refine ⟨by decide +kernel, ?_, by decide +kernel, by decide +kernel, by decide +kernel, by decide +kernel, by decide +kernel⟩
  unfold lineConsistent; decide +kernel

/-- In the arbitration field and in SEND, with the own frame being gathered; and in the opening mark, in SEEK. -/
theorem test_witness_ContentionAndMismatch :
    (bitOpen (ownBit .contend 13 recessive) ∧ noLineEvent (ownBit .contend 13 recessive) dominant ∧
      noClose (ownBit .contend 13 recessive) dominant ∧ (ownBit .contend 13 recessive).fr.state = .gather ∧
      (ownBit .contend 13 recessive).tu.state = .contend ∧ (ownBit .contend 13 recessive).tu.lout = recessive ∧
      (ownBit .contend 13 recessive).tu.buffer.isSome = true) ∧
    (bitOpen (ownBit .send 30 recessive) ∧ noLineEvent (ownBit .send 30 recessive) dominant ∧
      noClose (ownBit .send 30 recessive) dominant ∧ (ownBit .send 30 recessive).tu.state = .send ∧
      (ownBit .send 30 recessive).fr.state = .gather) ∧
    (noLineEvent (ownBit .contend 9 dominant) recessive ∧ noClose (ownBit .contend 9 dominant) recessive ∧
      (ownBit .contend 9 dominant).tu.lout = dominant) ∧ noClose { busy with lm := run .active true 6 false } dominant := by
  decide +kernel

/-- A LEAVING station with its leave timer running and its PART roll on the line. -/
def rollingOut : State :=
  { station 5 .leaving [] with mu := { (station 5 .leaving []).mu with leaveTimer := some 100, rollOnLine := .part } }

theorem test_witness_BreakoffEnd :
    (busy.inReset = false ∧ (run .active false 12 true).sampled = true ∧
      ({ attempt .breakoff 30 false with breakoffBits := 12, failures := 7 } : TransmitUnit).failures < 8 ∧
      (attempt .breakoff 30 false).buffer.isSome = true) ∧
    (busy.tu.state = .wait ∧ busy.mu.station = .member ∧ parcelsHeldOnce busy) ∧
    ((station 5 .leaving []).mu.station = .leaving ∧ (station 5 .leaving []).mu.leaveExpired = false) ∧
    ((one .leaveTimerExpiry rollingOut).mu.station = .leaving ∧ (one .leaveTimerExpiry rollingOut).mu.leaveExpired = true) ∧
    (station 5 .joining []).mu.station ≠ .member :=
  ⟨by decide +kernel, ⟨by decide +kernel, by decide +kernel, busy_held⟩, by decide +kernel, by decide +kernel, by decide +kernel⟩

theorem test_witness_Sent :
    bitOpen { busy with lm := run .active true 6 false } ∧ lineConsistent { busy with lm := run .active true 6 false } ∧
    (run .active true 6 false).runLength < 31 ∧ (run .active true 6 false).line ≠ .held ∧
    (attempt .send ((attempt .send 0 false).bits.length - 1) dominant).bits.length =
      (attempt .send ((attempt .send 0 false).bits.length - 1) dominant).lineBits + 1 := by
  refine ⟨by decide +kernel, ?_, by decide +kernel, by decide +kernel, by decide +kernel⟩
  unfold lineConsistent; decide +kernel

theorem test_witness_ResultAtOwner :
    ((busy.peer 2).tx.map (·.window) = some ([⟨0, 6⟩] ++ ⟨1, 7⟩ :: []) ∧ busy.slot 1 = .inFlight (parcelOf 2 (.station 2) false)) ∧
    (((one .startPoint { station 5 .member [(2, 1)] with
        lm := run .quiet true 10 true
        peers := ((station 5 .member [(2, 1)]).withTx 2 (some (newSession 3))).peers }).tx 2).map (·.openOnLine)) = some true ∧
    busy.gu.lane.isSome = true ∧
    (table75 = [] ++ ⟨10, .data, .taken, 3, true⟩ :: [⟨12, .data, .taken, 5, false⟩] ∧
      ∀ f ∈ ([] ++ [⟨12, .data, .taken, 5, false⟩] : List AnswerEntry), f.onLine = false) ∧
    (one .startPoint { station 5 .member [] with
      lm := run .quiet true 10 true, mu := { (station 5 .member []).mu with rollDue := true } }).mu.rollOnLine = .ordinary ∧
    (one .startPoint { station 5 .leaving [] with
      lm := run .quiet true 10 true, mu := { (station 5 .leaving []).mu with rollDue := true } }).mu.rollOnLine = .part ∧
    ((∀ t, (busy.peer 2).tx = some t → ∀ e ∈ t.window, e.seq ≠ 3) ∧ (busy.peer 9).tx = none ∧
      (∀ t, (busy.peer 3).tx = some t → t.state = .opened ∨ t.openOnLine = false) ∧
      (∀ l, busy.gu.lane = some l → l.slot ≠ 4 ∨ l.seq ≠ 1) ∧ (∀ e ∈ busy.answers, e.onLine = false) ∧
      busy.mu.rollOnLine = .off) := by
  refine ⟨by decide +kernel, by decide +kernel, by decide +kernel, by decide +kernel, by decide +kernel, by decide +kernel,
    fun t h => ?_, by decide +kernel, fun t h => ?_, fun l h => ?_, by decide +kernel, by decide +kernel⟩ <;>
    (cases h; decide +kernel)

/-- Every clause of the choice in MEMBER; the data candidates stand at positions 2 and 32. -/
theorem test_witness_CandidateChoice : (station 5 .detached []).choice = none ∧ (station 5 .leaving []).mu.station = .leaving ∧
    busy.mu.station = .member ∧ busy.answers = [] ∧ busy.mu.rollDue = false ∧ busy.openIsDue 3 = true ∧
    (∀ q : StationId, q < 3 → busy.openIsDue q = false) ∧ table62.tu.deferred = false ∧
    (∀ p : StationId, table62.openIsDue p = false) ∧ (∀ i : Position, table62.offerAt i = none) ∧
    (((table62.withSlot 9 (.waiting (parcelOf 9 (.station 4) false))).withTx 4
      (some { openSession [] 1 with waiting := [⟨9, false⟩] })).offerAt 4).isSome = true := by decide +kernel

/-- The offers of a session by its resend point and by its waiting list, a held one, one with nothing waiting, and the lane. -/
theorem test_witness_CandidateChoice_offers : ((busy.peer 2).tx.map fun t => (t.state, t.held, t.resend)) =
      some (.opened, false, none) ∧ ((busy.peer 2).tx.map fun t => (t.window, t.waiting)) =
      some ([⟨0, 6⟩, ⟨1, 7⟩], ⟨2, false⟩ :: []) ∧ busy.cfg.window = 4 ∧
    ((busyWith fun t => { t with resend := some 7 }).tx 2).map (fun t => (t.resend, t.window)) =
      some (some 7, [⟨0, 6⟩] ++ ⟨1, 7⟩ :: []) ∧ busy.slot 1 = .inFlight (parcelOf 2 (.station 2) false) ∧
    busy.slot 2 = .waiting (parcelOf 3 (.station 2) false) ∧ ((busyWith fun t => { t with held := true }).tx 2).map (·.held) = some true ∧
    ((busyWith fun t => { t with waiting := [] }).tx 2).map (·.waiting) = some [] ∧ busy.gu.lane.map (·.frameDue) = some false ∧
    (one .laneAnswerTimerExpiry table83).gu.lane.map (fun l => (l.frameDue, l.slot)) = some (true, 0) ∧
    (one .laneAnswerTimerExpiry table83).slot 0 = .inFlight (parcelOf 61 (.group 2) false) := by decide +kernel

theorem test_witness_StartPoint :
    (busy.inReset = false ∧ (run .quiet true 10 true).sampled = true ∧ 10 ≤ (run .quiet true 10 true).quietRun ∧
      busy.tu.state = .wait) ∧ table62.choice = none ∧ busy.choice.map (·.owner) = some (.openReq 3) ∧
    (busy.peer 3).tx = some (newSession 3) ∧
    ({ busy with answers := [⟨2, .data, .taken, 3, false⟩] } : State).choice.map (·.owner) = some .answer ∧
    ({ busy with mu := { busy.mu with rollDue := true } } : State).choice.map (·.owner) = some (.roll false) ∧
    (((busy.withTx 3 none).choice.map fun o => (o.owner, o.entering)) = some (.window 2 0, true) ∧
      busy.slot 2 = .waiting (parcelOf 3 (.station 2) false)) ∧
    ((((busyWith fun t => { t with resend := some 7 }).withTx 3 none).choice.map fun o => (o.owner, o.entering)) =
      some (.window 2 7, false)) ∧
    (({ table83 with gu := { table83.gu with lane := table83.gu.lane.map fun l => { l with frameDue := true } } } : State).choice.map
      (·.owner)) = some (.lane 0 4) := by decide +kernel

/-- A break-off whose bits read recessive on a line that stays QUIET, within its twelve bits and after them (section 12.6). -/
theorem test_witness_StartPoint_ignored : let s : State := { busy with lm := run .quiet true 12 true, tu := attempt .breakoff 8 dominant }
    s.inReset = false ∧ s.lm.sampled = true ∧ 10 ≤ s.lm.quietRun ∧ s.tu.state ≠ .wait ∧ s.tu.state = .breakoff ∧
    s.tu.breakoffBits < 12 ∧ { s.tu with breakoffBits := 12 }.breakoffBits = 12 := by decide +kernel

theorem test_witness_FramesWithoutUse : ((station 5 .silenced []).mu.station ≠ .member ∧
      (rowOf (.openReq 2 5 0)).wellFormed = true) ∧
    ((station 5 .joining []).mu.station = .joining ∧ (Msg.openReq 2 5 0).src ≠ (station 5 .joining []).mu.number) ∧
    (hears busy 2 ∧ (9 : StationId) ≠ 2 ∧ (9 : StationId) ≠ busy.mu.number ∧ (List.replicate 64 (0 : Byte)).length ≤ 64 ∧
      hasGroup busy.cfg.groups 2 = false) := by decide +kernel

theorem test_witness_Clash : ((Msg.openReq 0 2 0).withSrc busy.mu.number).valid = true ∧ busy.inReset = false ∧
    busy.mu.station = .member ∧ parcelsHeldOnce busy ∧ (station 5 .joining [(2, 0)]).mu.station = .joining ∧
    (station 5 .detached []).mu.station ≠ .member :=
  ⟨by decide +kernel, by decide +kernel, by decide +kernel, busy_held, by decide +kernel, by decide +kernel⟩

theorem test_witness_RollTaken : ((station 5 .joining [(2, 0)]).mu.station = .joining ∧
      ((station 5 .joining [(2, 0)]).peer 2).presence = .present ∧ ((station 5 .joining [(2, 0)]).peer 3).presence = .absent) ∧
    (hears busy 2 ∧ (busy.peer 2).presence = .present ∧ (busy.peer 9).presence = .absent ∧ hears busy 9) ∧
    (partingFlag 0x40 = true ∧ joinedFlag 0x40 = false ∧ partingFlag 0x80 = false ∧ joinedFlag 0x80 = true) := by decide +kernel

theorem test_witness_RollEndsPeer : hears busy 2 ∧ (busy.peer 2).presence = .present ∧
    (joinedFlag 0x80 && partingFlag 0x80) = false ∧ joinedFlag 0x80 = true ∧ (joinedFlag 0x40 && partingFlag 0x40) = false ∧
    partingFlag 0x40 = true ∧ (busy.gu.lane.map fun l => (hasStation l.pending 2, dropStation l.pending 2)) = some (true, 0x8) ∧
    (busy.peer 2).tx.isSome = true ∧ parcelsHeldOnce busy ∧ (busy.peer 9).tx = none ∧
    ((one (.answerGroup 8 7 .taken 4) table83).gu.lane.map fun l => (hasStation l.pending 12, dropStation l.pending 12)) =
      some (true, 0) ∧ (one (.answerGroup 8 7 .taken 4) table83).slot 0 = .inFlight (parcelOf 61 (.group 2) false) :=
  ⟨by decide +kernel, by decide +kernel, by decide +kernel, by decide +kernel, by decide +kernel, by decide +kernel, by decide +kernel,
    by decide +kernel, busy_held, by decide +kernel, by decide +kernel, by decide +kernel⟩

theorem test_witness_TerminalBreak : busy.slot 0 = .inFlight (parcelOf 1 (.station 2) true) ∧ (busy.peer 2).tx.isSome = true ∧
    parcelsHeldOnce busy := ⟨by decide +kernel, by decide +kernel, busy_held⟩

theorem test_witness_OpenToThisStation : hears busy 2 ∧ busy.answerRoom 2 .openReq = true ∧ (busy.peer 2).presence = .present ∧
    hears busy 9 ∧ (busy.peer 9).presence ≠ .present ∧
    ({ busy with answers := List.replicate 8 ⟨2, .data, .taken, 0, true⟩ } : State).answerRoom 2 .openReq = false := by decide +kernel

theorem test_witness_DataNew : hears table74 10 ∧ (List.replicate 64 (0 : Byte)).length ≤ 64 ∧ (table74.peer 10).rx = some 7 ∧
    table74.answerRoom 10 .data = true ∧ (∀ k : SlotId, table74.slot k ≠ .free) ∧
    ((busy.withRx 2 (some 7)).answerRoom 2 .data = true ∧ (busy.withRx 2 (some 7)).slot 8 = .free ∧
      ∀ j : SlotId, j < 8 → (busy.withRx 2 (some 7)).slot j ≠ .free) ∧
    ({ table74 with answers := List.replicate 8 ⟨10, .data, .taken, 0, true⟩ } : State).answerRoom 10 .data = false := by
  decide +kernel

theorem test_witness_DataNotNew : hears table74 10 ∧ (table74.peer 10).rx = some 7 ∧ (7 : Seq) ≠ 3 ∧ ((7 : Seq) - 3).val ≤ 4 ∧
    5 ≤ ((7 : Seq) - 2).val ∧ table74.answerRoom 10 .data = true ∧ hears busy 2 ∧ (busy.peer 2).rx = none ∧
    busy.answerRoom 2 .data = true := by decide +kernel

theorem test_witness_GroupFrame : hears busy 2 ∧ hasGroup busy.cfg.groups 1 = true ∧ (busy.peer 2).presence = .present ∧
    busy.answerRoom 2 .group = true ∧ (busy.peer 2).lastGroup ≠ some 3 ∧ ((busy.withLastGroup 2 (some 3)).peer 2).lastGroup = some 3 ∧
    (busy.slot 8 = .free ∧ ∀ j : SlotId, j < 8 → busy.slot j ≠ .free) ∧ (hears busy 9 ∧ (busy.peer 9).presence ≠ .present) ∧
    hasGroup ({ table74 with cfg := busy.cfg } : State).cfg.groups 1 = true ∧ (∀ k : SlotId, table74.slot k ≠ .free) := by
  decide +kernel

theorem test_witness_AnswerPlacing :
    (∀ e ∈ table75, ¬ (e.dest = 10 ∧ e.subject = .data ∧ e.onLine = false)) ∧
    (table75 = [⟨10, .data, .taken, 3, true⟩] ++ ⟨12, .data, .taken, 5, false⟩ :: [] ∧
      ∀ f ∈ ([⟨10, .data, .taken, 3, true⟩] ++ [] : List AnswerEntry), ¬ (f.dest = 12 ∧ f.subject = .data ∧ f.onLine = false)) := by
  decide

/-- Station 2's session: o = 6, so number 6 acknowledges none, 7 one, 0 both and 1 is stale. -/
theorem test_witness_AnswerDataTaken : hears busy 2 ∧ (busy.peer 2).presence = .present ∧
    ((busy.peer 2).tx.map fun x => (x.state, x.oldest, x.window.length)) = some (.opened, 6, 2) ∧
    (((6 : Seq) - 6).val = 0 ∧ ((0 : Seq) - 6).val = 2 ∧ 2 < ((1 : Seq) - 6).val) ∧
    isInFlight (busy.slot 0) = true ∧ isInFlight (busy.slot 1) = true ∧
    ((busy.peer 2).tx.map fun x => (x.window.map (·.slot), x.window.drop 2)) = some ([0, 1], []) ∧ ([0, 1] : List SlotId).Nodup := by
  decide +kernel

theorem test_witness_AnswerDataGapHold : hears busy 2 ∧ (busy.peer 2).presence = .present ∧
    ((busy.peer 2).tx.map fun x => (x.state, x.window, x.retry, x.hold)) = some (.opened, ⟨0, 6⟩ :: [⟨1, 7⟩], 0, 0) ∧
    busy.cfg.retryLimit = 5 ∧ ((busy.peer 2).tx.map fun x => (((7 : Seq) - x.oldest).val, x.window.drop 1)) = some (1, ⟨1, 7⟩ :: []) ∧
    isInFlight (busy.slot 0) = true ∧ isInFlight (busy.slot 1) = true ∧ ([0, 1] : List SlotId).Nodup ∧
    (((busyWith fun t => { t with retry := 5, hold := 15 }).tx 2).map fun x => (x.retry, x.hold)) = some (5, 15) := by decide +kernel

theorem test_witness_AnswerDataNoSession : hears busy 2 ∧ (busy.peer 2).presence = .present ∧
    ((busy.peer 2).tx.map (·.state)) = some .opened ∧ parcelsHeldOnce busy ∧ ((busy.peer 3).tx.map (·.state)) = some .opening ∧
    ((station 5 .member [(2, 1)]).peer 2).tx = none ∧ (hears busy 9 ∧ (busy.peer 9).presence = .absent ∧ (busy.peer 9).tx = none) :=
  ⟨by decide +kernel, by decide +kernel, by decide +kernel, busy_held, by decide +kernel, by decide +kernel, by decide +kernel⟩

theorem test_witness_AnswerOpen : hears busy 3 ∧ (busy.peer 3).presence = .present ∧
    ((busy.peer 3).tx.map fun x => (x.state, x.retry)) = some (.opening, 0) ∧ busy.cfg.retryLimit ≠ 0 ∧
    ((busy.peer 2).tx.map (·.state)) = some .opened ∧
    (((busy.withTx 3 (some { newSession 3 with retry := 5 })).tx 3).map (·.retry)) = some busy.cfg.retryLimit := by decide +kernel

theorem test_witness_AnswerGroup : hears busy 2 ∧ (busy.gu.lane.map fun l => (l.seq, hasStation l.pending 2, dropStation l.pending 2)) =
      some (2, true, 0x8) ∧ hears table83 12 ∧
    ((one (.answerGroup 8 7 .taken 4) table83).gu.lane.map fun l => (hasStation l.pending 12, dropStation l.pending 12)) =
      some (true, 0) ∧ table83.slot 0 = .inFlight (parcelOf 61 (.group 2) false) ∧ (station 5 .member [(2, 1)]).gu.lane = none := by
  decide +kernel

theorem test_witness_Load : ({ busy with gu := { busy.gu with lane := none } } : State).gu.lane = none ∧ busy.mu.station = .member ∧
    busy.gu.waiting = 5 :: [] ∧ busy.slot 5 = .waiting (parcelOf 6 (.group 1) false) ∧
    (parcelOf 6 (.group 1) false).dest = .group 1 ∧
    (allStations.filter fun p => decide ((busy.peer p).presence = .present) && hasGroup (busy.peer p).groups 1) = [3] ∧
    (allStations.filter fun p => decide (((busy.withPresence 3 .present 0 0).peer p).presence = .present) &&
      hasGroup ((busy.withPresence 3 .present 0 0).peer p).groups 1) = [] := by decide +kernel

theorem test_witness_JoinAndLeaveTimers :
    ((one (.join 1) .reset).mu.station = .joining ∧ (one (.join 1) .reset).mu.joinTimer ≠ none) ∧
    ((one (.leave 1) busy).mu.station = .leaving ∧ (one (.leave 1) busy).mu.leaveTimer ≠ none ∧
      (one (.leave 1) busy).mu.rollOnLine = .off) ∧
    (one (.leave 1) { busy with mu := { busy.mu with rollOnLine := .ordinary } }).mu.rollOnLine ≠ .off ∧
    (busy.mu.joinTimer = none ∧ busy.mu.rollTimer = none ∧ busy.mu.leaveTimer = none) := by decide +kernel

/-- Station 2 at silence 2 and station 3 at 0, with the roll timer running. -/
def ageing : State :=
  { busy with
    mu := { busy.mu with rollTimer := some 100 }
    peers := (busy.withPeer 2 { busy.peer 2 with silence := 2 }).peers }

theorem test_witness_RollTimer : ageing.mu.station = .member ∧ ageing.mu.rollTimer ≠ none ∧
    ((ageing.peer 3).presence = .present ∧ (ageing.peer 3).silence < 2) ∧
    ((ageing.peer 2).presence = .present ∧ (ageing.peer 2).silence = 2) ∧ (ageing.peer 9).presence ≠ .present ∧
    (∀ p : StationId, p ≠ 2 → (ageing.peer p).presence = .present → (ageing.peer p).silence < 2) ∧
    (∀ p : StationId, (busy.peer p).presence = .present → (busy.peer p).silence < 2) := by decide +kernel

theorem test_witness_SessionAndLaneTimers :
    ((busy.peer 2).tx.map fun x => (x.state, x.answerTimer, x.retry)) = some (.opened, some 20, 0) ∧
    (((busyWith fun t => { t with retry := 5, holdTimer := some 20 }).tx 2).map fun x => (x.retry, x.holdTimer)) = some (5, some 20) ∧
    (((one (.answerOpen 3 5 .refused 0) busy).tx 3).map fun x => (x.state, x.refusalPause, x.answerTimer)) =
      some (.opening, true, some 20) ∧
    ((busy.peer 3).tx.map fun x => (x.answerTimer, x.holdTimer)) = some (none, none) ∧ (busy.peer 9).tx = none ∧
    (busy.gu.lane.map fun l => (l.timer, l.retry)) = some (some 20, busy.cfg.retryLimit) ∧
    busy.slot 4 = .inFlight (parcelOf 5 (.group 0) false) ∧ (table83.gu.lane.map (·.retry)) = some 0 := by decide +kernel

/-- The busy station, with a row in front of its queue, meets every invariant and steps to a next state. -/
def busyRun : State := { busy with pending := [.rollTimerExpiry, .nop 1] }

theorem test_witness_LineInvariants : (∃ t, step busyRun = .next t) ∧ lineConsistent busyRun ∧ transmitRanges busyRun ∧
    attemptsAllowed busyRun := by
  refine ⟨⟨_, rfl⟩, ?_, ?_, ?_⟩
  · unfold lineConsistent; decide +kernel
  · unfold transmitRanges; decide +kernel
  · unfold attemptsAllowed; decide +kernel

theorem test_witness_StoreInvariants : (∃ t, step busyRun = .next t) ∧ outboundCapped busyRun ∧ ticketFresh busyRun ∧
    deliveredMatches busyRun ∧ reportMatches busyRun := by
  refine ⟨⟨_, rfl⟩, ?_, ?_, ?_, ?_⟩
  · unfold outboundCapped; decide +kernel
  · unfold ticketFresh; decide +kernel
  · unfold deliveredMatches; decide +kernel
  · unfold reportMatches; decide +kernel

theorem test_witness_PeerInvariants : (∃ t, step busyRun = .next t) ∧ peersConsistent busyRun ∧ workOnlyInMember busyRun := by
  refine ⟨⟨_, rfl⟩, ?_, ?_⟩
  · unfold peersConsistent; decide +kernel
  · unfold workOnlyInMember; decide +kernel

theorem test_witness_WorkInvariants : (∃ t, step busyRun = .next t) ∧ workOnlyInMember busyRun ∧ answersBounded busyRun ∧
    laneConsistent busyRun ∧ sessionsBounded busyRun ∧ configInRange busyRun := by
  refine ⟨⟨_, rfl⟩, test_witness_PeerInvariants.2.2, ⟨by decide +kernel, fun _ _ => Nat.zero_le 1, by decide +kernel,
    by decide +kernel⟩, ⟨fun l h => ?_, by decide +kernel⟩, sessionsBounded_of (by decide +kernel), ?_⟩
  · cases h; decide +kernel
  · unfold configInRange; decide +kernel

theorem test_witness_ParcelsHeldOnce : (∃ t, step busyRun = .next t) ∧ parcelsHeldOnce busyRun ∧
    (parcelsHeldOnce (station 5 .silenced []) ∧ workOnlyInMember (station 5 .silenced []) ∧
      (station 5 .silenced []).mu.station ≠ .member) := by
  refine ⟨⟨_, rfl⟩, parcelsHeldOnce_of (by decide +kernel), parcelsHeldOnce_of (by decide +kernel), ?_, by decide +kernel⟩
  unfold workOnlyInMember; decide +kernel

theorem test_witness_StoreKeepsParcels : isResetRow (.fetch 1) = false ∧ (∃ t, exec (.fetch 1) busy = .next t) ∧
    (∃ t, exec (.report 1) busy = .next t) ∧ (∃ t, exec .rollTimerExpiry busy = .next t) ∧
    (one (.fetch 1) busy).slot 7 = .free ∧ (one (.report 1) busy).slot 6 = .free :=
  ⟨rfl, ⟨_, rfl⟩, ⟨_, rfl⟩, ⟨_, rfl⟩, by decide +kernel, by decide +kernel⟩

theorem test_witness_OwnersOfRegisters : (∃ t, exec .rollTimerExpiry busy = .next t) ∧ isTransactionEnd .rollTimerExpiry = false ∧
    isResetRow .rollTimerExpiry = false ∧ (∃ t, exec .hardwareReset busy = .next t) ∧ isResetRow .hardwareReset = true :=
  ⟨⟨_, rfl⟩, rfl, rfl, ⟨_, rfl⟩, rfl⟩

theorem test_witness_HostBytesRoundTrip : ((Instr.post 1 4 2 (List.replicate 70 0)).wellFormed = true ∧
      (encodeTransaction (.post 1 4 2 (List.replicate 70 0))).isSome = true) ∧
    ((Instr.incompleteTransaction []).wellFormed = true ∧ encodeTransaction (.incompleteTransaction []) = some []) ∧
    ((Instr.badCommand 1 0x11 (List.replicate 72 0)).wellFormed = true) ∧
    encodeTransaction (.restart 8 31 3) = some [8, 0x1F, 0] := by decide

theorem test_witness_FrameContentRoundTrip : (Msg.data true 4 10 7 (List.replicate 64 0xFF)).valid = true ∧
    (Msg.group false 31 7 0 []).valid = true ∧ (Msg.roll 5 0 0xFF 0x80).valid = true := by decide

theorem test_witness_FrameOnTheLine : (Msg.answer 4 10 .group .hold 7).valid = true ∧ (run .quiet true 10 true).line = .quiet ∧
    (run .quiet true 10 true).polarity = some recessive ∧ 10 ≤ (run .quiet true 10 true).runLength ∧
    FrameReceiver.reset.state = .seek := by decide

end Sys2Proof.Tests
end

section
/-!
PROOFS. The Parcel Store's commands: CANCEL, FETCH and REPORT (R93 to R96, R103, R173 to R175).
-/
namespace Sys2Proof.Machine

open Sys2Proof Sys2Proof.Safety

/-! ### A transaction that the port takes -/

/-- The command of a taken transaction acts on the state with CSN high (R163). -/
theorem State.execute_of_takes {s : State} (h : takes s) (command : State → State) :
    s.execute command = command s.csnHigh := by
  obtain ⟨hreset, hport⟩ := h
  simp [State.execute, State.takesTransaction, hreset, hport]

theorem exec_cancel_of_takes {s : State} (h : takes s) (tag : Byte) (ticket : Ticket) :
    exec (.cancel tag ticket) s = .next (s.csnHigh.cancelTicket tag ticket) :=
  congrArg Host.Outcome.next (State.execute_of_takes h _)

theorem exec_fetch_of_takes {s : State} (h : takes s) (tag : Byte) :
    exec (.fetch tag) s = .next (s.csnHigh.fetchHead tag) :=
  congrArg Host.Outcome.next (State.execute_of_takes h _)

theorem exec_report_of_takes {s : State} (h : takes s) (tag : Byte) :
    exec (.report tag) s = .next (s.csnHigh.reportHead tag) :=
  congrArg Host.Outcome.next (State.execute_of_takes h _)

theorem State.csnHigh_replyWith (s : State) (tag code : Byte) (result : Result) (data : List Byte) :
    s.csnHigh.replyWith tag code result data = replied s tag code result data := rfl

/-! ### The search for a ticket -/

theorem Slot.waitingParcel_eq_some {v : Slot} {c : Parcel} : v.waitingParcel = some c ↔ v = .waiting c := by
  cases v <;> simp [Slot.waitingParcel]

theorem Slot.inFlightParcel_eq_some {v : Slot} {c : Parcel} : v.inFlightParcel = some c ↔ v = .inFlight c := by
  cases v <;> simp [Slot.inFlightParcel]

/-- A slot that the search finds carries the ticket. -/
theorem State.findTicket_spec {s : State} {cond : Slot → Option Parcel} {ticket : Ticket} {k : SlotId}
    (h : s.findTicket cond ticket = some k) : ∃ c, cond (s.slot k) = some c ∧ c.ticket = ticket := by
  have hk := List.find?_some h
  cases hc : cond (s.slot k) with
  | none => simp [hc] at hk
  | some c => exact ⟨c, rfl, by simpa [hc] using hk⟩

/-- The search looks at every slot: it finds none only when no accepted parcel carries the ticket. -/
theorem State.findTicket_eq_none {s : State} {cond : Slot → Option Parcel} {ticket : Ticket} :
    s.findTicket cond ticket = none ↔ ∀ k c, cond (s.slot k) = some c → c.ticket ≠ ticket := by
  constructor
  · intro h k c hc
    simpa [hc] using List.find?_eq_none.mp h k (List.mem_finRange k)
  · intro h
    cases hf : s.findTicket cond ticket with
    | none => rfl
    | some k =>
      obtain ⟨c, hc, ht⟩ := findTicket_spec hf
      exact absurd ht (h k c hc)

/-- A ticket that one accepted slot alone carries is found there. -/
theorem State.findTicket_of_unique {s : State} {cond : Slot → Option Parcel} {ticket : Ticket} {k : SlotId} {c : Parcel}
    (hc : cond (s.slot k) = some c) (ht : c.ticket = ticket)
    (huniq : ∀ j d, cond (s.slot j) = some d → d.ticket = ticket → j = k) : s.findTicket cond ticket = some k := by
  cases hf : s.findTicket cond ticket with
  | none => exact absurd ht (findTicket_eq_none.mp hf k c hc)
  | some j =>
    obtain ⟨d, hd, htd⟩ := findTicket_spec hf
    rw [huniq j d hd htd]

/-! ### CANCEL: the withdrawal and the three answers -/

/-- An outcome set on a WAITING slot (R92, R182). -/
theorem State.setOutcome_of_waiting {s : State} {k : SlotId} {c : Parcel} (h : s.slot k = .waiting c) (o : ParcelOutcome) :
    s.setOutcome k o = { s.withSlot k (.done c o) with report := s.report ++ [.outcome k] } := by
  simp only [State.setOutcome, h]

/-- The session after CANCEL has taken slot `k` from its waiting list (R103). -/
theorem State.dropWaiting_of_tx {s : State} {p : StationId} {x : TxSession} (h : s.tx p = some x) (k : SlotId) :
    s.dropWaiting p k = s.withTx p
      (if x.state = .opening ∧ x.waiting.filter (fun w => decide (w.slot ≠ k)) = [] then none
        else some { x with waiting := x.waiting.filter fun w => decide (w.slot ≠ k) }) := by
  simp only [State.dropWaiting, h]
  split <;> rfl

/-- A direct parcel is withdrawn from its session (R95, R103). -/
theorem State.withdraw_station {s : State} {k : SlotId} {c : Parcel} {p : StationId} (h : s.slot k = .waiting c)
    (hd : c.dest = .station p) : s.withdraw k = (s.setOutcome k (directOutcome .cancelled .host)).dropWaiting p k := by
  simp only [State.withdraw, Slot.waitingParcel_eq_some.mpr h, hd]

/-- A group parcel is withdrawn from the Group Unit's waiting list, with both sets empty (R95, R182). -/
theorem State.withdraw_group {s : State} {k : SlotId} {c : Parcel} {g : GroupId} (h : s.slot k = .waiting c)
    (hd : c.dest = .group g) :
    s.withdraw k = { s.setOutcome k (groupOutcome .cancelled .host 0 0) with
      gu := { s.gu with waiting := s.gu.waiting.filter fun j => decide (j ≠ k) } } := by
  simp only [State.withdraw, Slot.waitingParcel_eq_some.mpr h, hd, State.setOutcome_keeps]

theorem State.cancelTicket_of_waiting {s : State} {ticket : Ticket} {k : SlotId}
    (h : s.findTicket Slot.waitingParcel ticket = some k) (tag : Byte) :
    s.cancelTicket tag ticket = (s.withdraw k).replyWith tag 0x21 .ok [] := by
  simp only [State.cancelTicket, h]

theorem State.cancelTicket_of_inFlight {s : State} {ticket : Ticket} {k : SlotId}
    (hw : s.findTicket Slot.waitingParcel ticket = none) (h : s.findTicket Slot.inFlightParcel ticket = some k) (tag : Byte) :
    s.cancelTicket tag ticket = s.replyWith tag 0x21 .inFlight [] := by
  simp only [State.cancelTicket, hw, h]

theorem State.cancelTicket_of_unknown {s : State} {ticket : Ticket} (hw : s.findTicket Slot.waitingParcel ticket = none)
    (h : s.findTicket Slot.inFlightParcel ticket = none) (tag : Byte) :
    s.cancelTicket tag ticket = s.replyWith tag 0x21 .unknown [] := by
  simp only [State.cancelTicket, hw, h]

/-- Settles O15: the search for the ticket decides between the three answers, and a WAITING parcel leaves its holder. -/
theorem cancel : Obligations.Cancel := by
  intro s tag ticket htakes
  rw [exec_cancel_of_takes htakes]
  refine ⟨fun k c hk ht huniq => ?_, fun hw hf => ?_, fun hno => ?_⟩
  · have hk' : s.csnHigh.slot k = .waiting c := hk
    have hfind : s.csnHigh.findTicket Slot.waitingParcel ticket = some k :=
      State.findTicket_of_unique (Slot.waitingParcel_eq_some.mpr hk') ht fun j d hj =>
        huniq j d (Slot.waitingParcel_eq_some.mp hj)
    rw [State.cancelTicket_of_waiting hfind]
    refine ⟨fun p x hdest hx => ?_, fun g hdest => ?_⟩
    · have hx' : (s.csnHigh.setOutcome k (directOutcome .cancelled .host)).tx p = some x := by
        rw [State.tx, State.peer_congr (t := s.csnHigh.setOutcome k _) (s := s) (by simp)]
        exact hx
      rw [State.withdraw_station hk' hdest, State.dropWaiting_of_tx hx', State.setOutcome_of_waiting hk']
      rfl
    · rw [State.withdraw_group hk' hdest, State.setOutcome_of_waiting hk']
      rfl
  · have hnone : s.csnHigh.findTicket Slot.waitingParcel ticket = none :=
      State.findTicket_eq_none.mpr fun k c hc => hw k c (Slot.waitingParcel_eq_some.mp hc)
    obtain ⟨k, c, hk, ht⟩ := hf
    cases hfind : s.csnHigh.findTicket Slot.inFlightParcel ticket with
    | none => exact absurd ht (State.findTicket_eq_none.mp hfind k c (Slot.inFlightParcel_eq_some.mpr hk))
    | some j => rw [State.cancelTicket_of_inFlight hnone hfind, State.csnHigh_replyWith]
  · rw [State.cancelTicket_of_unknown, State.csnHigh_replyWith]
    · exact State.findTicket_eq_none.mpr fun k c hc => hno k c (.inl (Slot.waitingParcel_eq_some.mp hc))
    · exact State.findTicket_eq_none.mpr fun k c hc => hno k c (.inr (Slot.inFlightParcel_eq_some.mp hc))

/-! ### FETCH and REPORT: one equation per head of the list -/

theorem State.fetchHead_nil {s : State} (h : s.delivered = []) (tag : Byte) :
    s.fetchHead tag = s.replyWith tag 0x30 .empty [] := by
  simp only [State.fetchHead, h]

theorem State.fetchHead_cons {s : State} {k : SlotId} {rest : List SlotId} {p : StationId} {origin : Origin}
    {payload : List Byte} (h : s.delivered = k :: rest) (hk : s.slot k = .delivered p origin payload) (tag : Byte) :
    s.fetchHead tag =
      ({ s.withSlot k .free with delivered := rest }).replyWith tag 0x30 .ok (fetchData p origin payload) := by
  simp only [State.fetchHead, h, hk]

theorem State.reportHead_nil {s : State} (h : s.report = []) (tag : Byte) :
    s.reportHead tag = s.replyWith tag 0x31 .empty [] := by
  simp only [State.reportHead, h]

theorem State.reportHead_notice {s : State} {kind : NoticeKind} {peer : Option StationId} {missed : Bool}
    {rest : List ReportEntry} (h : s.report = .notice kind peer missed :: rest) (tag : Byte) :
    s.reportHead tag = ({ s with report := rest }).replyWith tag 0x31 .ok (noticeData kind peer missed) := by
  simp only [State.reportHead, h]

theorem State.reportHead_outcome {s : State} {k : SlotId} {rest : List ReportEntry} {c : Parcel} {o : ParcelOutcome}
    (h : s.report = .outcome k :: rest) (hk : s.slot k = .done c o) (tag : Byte) :
    s.reportHead tag = ({ s.withSlot k .free with report := rest }).replyWith tag 0x31 .ok (outcomeData c o) := by
  simp only [State.reportHead, h, hk]

/-- Settles O16: the record of each head is compared with its table by the fields that choose its bytes, the origin, the
notice's station and MISSED flag, and the two sets; the code tables are read off. -/
theorem fetchAndReport : Obligations.FetchAndReport := by
  refine ⟨fun s tag htakes => ?_, fun s tag htakes => ?_, rfl, rfl, rfl⟩
  · rw [exec_fetch_of_takes htakes]
    refine ⟨fun hnil => ?_, fun k rest p origin payload hcons hk => ?_⟩
    · rw [State.fetchHead_nil (s := s.csnHigh) hnil, State.csnHigh_replyWith]
    · rw [State.fetchHead_cons (s := s.csnHigh) hcons hk]
      cases origin <;> rfl
  · rw [exec_report_of_takes htakes]
    refine ⟨fun hnil => ?_, fun kind peer missed rest hcons => ?_, fun k rest c o hcons hk => ?_⟩
    · rw [State.reportHead_nil (s := s.csnHigh) hnil, State.csnHigh_replyWith]
    · rw [State.reportHead_notice (s := s.csnHigh) hcons]
      cases peer <;> cases missed <;> rfl
    · rw [State.reportHead_outcome (s := s.csnHigh) hcons hk]
      obtain ⟨code, cause, _ | ⟨answered, missing⟩⟩ := o <;> rfl

end Sys2Proof.Machine
end

section
/-!
PROOFS. The terminal break of a tx session (R120, R121): the outcomes it sets, set one after another on slots that are all
outstanding and all different, and the holders of Table 5-1 that make them so.
-/
namespace Sys2Proof.Machine

open Sys2Proof Sys2Proof.Safety

/-! ### Outcomes set one after another -/

/-- Slot `k` holds the parcel `c` and has no outcome yet: it is WAITING or IN-FLIGHT (Table 5-1). -/
def State.outstanding (s : State) (k : SlotId) (c : Parcel) : Prop := s.slot k = .waiting c ∨ s.slot k = .inFlight c

/-- Outcomes for a list of slots that each have their own, in list order (R181). -/
def State.settleAll (s : State) (l : List (SlotId × ParcelOutcome)) : State := l.foldl (fun t d => t.setOutcome d.1 d.2) s

theorem State.settleAll_cons (s : State) (d : SlotId × ParcelOutcome) (l : List (SlotId × ParcelOutcome)) :
    s.settleAll (d :: l) = (s.setOutcome d.1 d.2).settleAll l := rfl

/-- An outcome set on an outstanding slot takes effect (R92, R182). -/
theorem State.setOutcome_of_outstanding {s : State} {k : SlotId} {c : Parcel} (h : s.outstanding k c) (o : ParcelOutcome) :
    s.setOutcome k o = { s.withSlot k (.done c o) with report := s.report ++ [.outcome k] } := by
  rcases h with hw | hf
  · exact setOutcome_of_waiting hw o
  · simp only [State.setOutcome, hf]

theorem State.outstanding_setOutcome_of_ne {s : State} {k j : SlotId} (h : j ≠ k) (o : ParcelOutcome) (c : Parcel) :
    (s.setOutcome k o).outstanding j c ↔ s.outstanding j c := by
  simp only [State.outstanding, State.slot_setOutcome, if_neg h]

theorem State.slot_settleAll_of_notMem {s : State} {l : List (SlotId × ParcelOutcome)} {k : SlotId}
    (h : ∀ d ∈ l, d.1 ≠ k) : (s.settleAll l).slot k = s.slot k := by
  induction l generalizing s with
  | nil => rfl
  | cons d l ih =>
    obtain ⟨hd, hl⟩ := List.forall_mem_cons.mp h
    rw [settleAll_cons, ih hl, slot_setOutcome, if_neg hd.symm]

/-- On different outstanding slots every outcome adds its report entry, in list order, and nothing but the slots and the report
list changes (R182). -/
theorem State.settleAll_eq {s : State} {l : List (SlotId × ParcelOutcome)} (hdiff : (l.map (·.1)).Nodup)
    (hout : ∀ d ∈ l, ∃ c, s.outstanding d.1 c) :
    s.settleAll l =
      { s with slots := (s.settleAll l).slots, report := s.report ++ l.map fun d => .outcome d.1 } := by
  induction l generalizing s with
  | nil => simp [settleAll]
  | cons d l ih =>
    obtain ⟨hd, hdiff⟩ := List.nodup_cons.mp hdiff
    obtain ⟨⟨c, hc⟩, hout⟩ := List.forall_mem_cons.mp hout
    have hrest : ∀ e ∈ l, ∃ c, (s.setOutcome d.1 d.2).outstanding e.1 c := fun e he => by
      have hne : e.1 ≠ d.1 := fun heq => hd (List.mem_map.mpr ⟨e, he, heq⟩)
      simpa only [outstanding_setOutcome_of_ne hne] using hout e he
    rw [settleAll_cons, ih hdiff hrest, setOutcome_of_outstanding hc]
    simp [State.withSlot]

/-- On different outstanding slots every outcome of the list is the one its slot records (R92). -/
theorem State.slot_settleAll_of_mem {s : State} {l : List (SlotId × ParcelOutcome)} (hdiff : (l.map (·.1)).Nodup)
    {k : SlotId} {o : ParcelOutcome} {c : Parcel} (hmem : (k, o) ∈ l) (hc : s.outstanding k c) :
    (s.settleAll l).slot k = .done c o := by
  induction l generalizing s with
  | nil => cases hmem
  | cons d l ih =>
    obtain ⟨hd, hdiff⟩ := List.nodup_cons.mp hdiff
    have hne : ∀ e ∈ l, e.1 ≠ d.1 := fun e he heq => hd (List.mem_map.mpr ⟨e, he, heq⟩)
    rw [settleAll_cons]
    rcases List.mem_cons.mp hmem with rfl | htail
    · rw [slot_settleAll_of_notMem hne, setOutcome_of_outstanding hc]
      exact s.slot_withSlot_same _ _
    · exact ih hdiff htail ((outstanding_setOutcome_of_ne (hne _ htail) _ _).mpr hc)

/-! ### The holders of Table 5-1 -/

/-- A list that holds each slot of one kind once, and no other slot, has no slot twice. -/
theorem nodup_of_count_eq {l : List SlotId} {kind : SlotId → Bool} (h : ∀ k, l.count k = if kind k then 1 else 0) :
    l.Nodup := by
  refine List.nodup_iff_count_le_one.mpr fun k => ?_
  rw [h k]
  split <;> omega

/-- A list that holds each slot of one kind once, and no other slot, holds slots of that kind alone. -/
theorem kind_of_mem_of_count_eq {l : List SlotId} {kind : SlotId → Bool} (h : ∀ k, l.count k = if kind k then 1 else 0)
    {k : SlotId} (hk : k ∈ l) : kind k = true := by
  have hpos : 0 < l.count k := List.count_pos_iff.mpr hk
  rw [h k] at hpos
  by_contra hkind
  simp [hkind] at hpos

theorem isWaiting_iff {v : Slot} : isWaiting v = true ↔ ∃ c, v = .waiting c := by
  cases v <;> simp [isWaiting]

theorem isInFlight_iff {v : Slot} : isInFlight v = true ↔ ∃ c, v = .inFlight c := by
  cases v <;> simp [isInFlight]

section
variable {s : State} {p : StationId} {x : TxSession}

theorem mem_waitingRefs_of_tx (htx : s.tx p = some x) {w : WaitingEntry} (hw : w ∈ x.waiting) : w.slot ∈ waitingRefs s :=
  List.mem_append_left _ (List.mem_flatMap.mpr ⟨p, List.mem_finRange p, by rw [htx]; exact List.mem_map_of_mem hw⟩)

theorem mem_flightRefs_of_tx (htx : s.tx p = some x) {e : WindowEntry} (he : e ∈ x.window) : e.slot ∈ flightRefs s :=
  List.mem_append_left _ (List.mem_flatMap.mpr ⟨p, List.mem_finRange p, by rw [htx]; exact List.mem_map_of_mem he⟩)

theorem waiting_nodup_of_heldOnce (hheld : parcelsHeldOnce s) (htx : s.tx p = some x) : (x.waiting.map (·.slot)).Nodup := by
  obtain ⟨hwaiting, -⟩ := hheld
  have hsession := (List.nodup_flatMap.mp (nodup_of_count_eq hwaiting).of_append_left).1 p (List.mem_finRange p)
  simpa only [htx] using hsession

theorem window_nodup_of_heldOnce (hheld : parcelsHeldOnce s) (htx : s.tx p = some x) : (x.window.map (·.slot)).Nodup := by
  obtain ⟨-, hflight, -⟩ := hheld
  have hsession := (List.nodup_flatMap.mp (nodup_of_count_eq hflight).of_append_left).1 p (List.mem_finRange p)
  simpa only [htx] using hsession

theorem slot_waiting_of_heldOnce (hheld : parcelsHeldOnce s) (htx : s.tx p = some x) {w : WaitingEntry} (hw : w ∈ x.waiting) :
    ∃ c, s.slot w.slot = .waiting c := by
  obtain ⟨hwaiting, -⟩ := hheld
  exact isWaiting_iff.mp (kind_of_mem_of_count_eq hwaiting (mem_waitingRefs_of_tx htx hw))

theorem slot_inFlight_of_heldOnce (hheld : parcelsHeldOnce s) (htx : s.tx p = some x) {e : WindowEntry} (he : e ∈ x.window) :
    ∃ c, s.slot e.slot = .inFlight c := by
  obtain ⟨-, hflight, -⟩ := hheld
  exact isInFlight_iff.mp (kind_of_mem_of_count_eq hflight (mem_flightRefs_of_tx htx he))

end

/-! ### What counts as sent -/

theorem State.sentOnce_of_inFlight {s : State} {k : SlotId} {c : Parcel} (h : s.slot k = .inFlight c) :
    s.sentOnce k = c.sentOnce := by
  simp only [State.sentOnce, h, Slot.parcel]

theorem State.sending_iff {s : State} {o : Owner} :
    s.sending o = true ↔
      (s.tu.state = .contend ∨ s.tu.state = .send) ∧ ∃ x, s.tu.buffer = some x ∧ x.owner = o := by
  simp only [State.sending, Bool.and_eq_true, decide_eq_true_eq, Option.map_eq_some_iff]

theorem State.countsSent_iff {s : State} {p : StationId} {cause : Cause} {e : WindowEntry} {c : Parcel}
    (h : s.slot e.slot = .inFlight c) :
    s.countsSent p cause e = true ↔ c.sentOnce = true ∨ (cause ≠ .clash ∧ s.sending (.window p e.seq) = true) := by
  simp only [State.countsSent, sentOnce_of_inFlight h, Bool.or_eq_true, Bool.and_eq_true, decide_eq_true_eq]

/-! ### The terminal break -/

/-- The outcomes of a terminal break in their order: the window's oldest first, then the waiting list's head first (R121). -/
def State.breakOutcomes (s : State) (p : StationId) (cause : Cause) (x : TxSession) : List (SlotId × ParcelOutcome) :=
  (x.window.map fun e => (e.slot, s.breakOutcome p cause e)) ++
    x.waiting.map fun w => (w.slot, directOutcome .notSent cause)

section
variable {s : State} {p : StationId} {cause : Cause} {x : TxSession}

theorem State.terminalBreak_of_tx (htx : s.tx p = some x) :
    s.terminalBreak p cause = (s.settleAll (s.breakOutcomes p cause x)).withTx p none := by
  simp only [State.terminalBreak, htx, settleAll, breakOutcomes, State.setOutcomes, List.foldl_append, List.foldl_map]

/-- The slots of a session are all different: each list holds a slot once, and the window's are IN-FLIGHT where the waiting
list's are WAITING. -/
theorem breakOutcomes_slots_nodup (hheld : parcelsHeldOnce s) (htx : s.tx p = some x) :
    ((s.breakOutcomes p cause x).map (·.1)).Nodup := by
  have hlists : (s.breakOutcomes p cause x).map (·.1) = x.window.map (·.slot) ++ x.waiting.map (·.slot) := by
    simp [State.breakOutcomes, Function.comp_def]
  rw [hlists, List.nodup_append']
  refine ⟨window_nodup_of_heldOnce hheld htx, waiting_nodup_of_heldOnce hheld htx, fun k hwindow hwaiting => ?_⟩
  obtain ⟨e, he, rfl⟩ := List.mem_map.mp hwindow
  obtain ⟨w, hw, heq⟩ := List.mem_map.mp hwaiting
  obtain ⟨c, hc⟩ := slot_inFlight_of_heldOnce hheld htx he
  obtain ⟨d, hd⟩ := slot_waiting_of_heldOnce hheld htx hw
  simp [heq, hc] at hd

theorem breakOutcomes_outstanding (hheld : parcelsHeldOnce s) (htx : s.tx p = some x) :
    ∀ d ∈ s.breakOutcomes p cause x, ∃ c, s.outstanding d.1 c := by
  intro d hd
  rcases List.mem_append.mp hd with hwindow | hwaiting
  · obtain ⟨e, he, rfl⟩ := List.mem_map.mp hwindow
    exact (slot_inFlight_of_heldOnce hheld htx he).imp fun _ => .inr
  · obtain ⟨w, hw, rfl⟩ := List.mem_map.mp hwaiting
    exact (slot_waiting_of_heldOnce hheld htx hw).imp fun _ => .inl

/-- Frame of the terminal break: the slots, the report list with one entry for each parcel, and the deleted session (R121). -/
theorem State.terminalBreak_eq (hheld : parcelsHeldOnce s) (htx : s.tx p = some x) :
    s.terminalBreak p cause = { s with
      slots := (s.terminalBreak p cause).slots
      report := s.report ++ (x.window.map fun e => .outcome e.slot) ++ x.waiting.map fun w => .outcome w.slot
      peers := s.peers.set p.val { s.peer p with tx := none } } := by
  rw [terminalBreak_of_tx htx,
    settleAll_eq (breakOutcomes_slots_nodup hheld htx) (breakOutcomes_outstanding hheld htx)]
  simp [State.withTx, State.withPeer, State.peer, State.breakOutcomes, Function.comp_def]

theorem State.slot_terminalBreak_of_window (hheld : parcelsHeldOnce s) (htx : s.tx p = some x) {e : WindowEntry}
    (he : e ∈ x.window) {c : Parcel} (hc : s.slot e.slot = .inFlight c) :
    (s.terminalBreak p cause).slot e.slot = .done c (s.breakOutcome p cause e) := by
  rw [terminalBreak_of_tx htx, slot_withTx]
  exact slot_settleAll_of_mem (breakOutcomes_slots_nodup hheld htx)
    (List.mem_append_left _ (List.mem_map_of_mem he)) (.inr hc)

theorem State.slot_terminalBreak_of_waiting (hheld : parcelsHeldOnce s) (htx : s.tx p = some x) {w : WaitingEntry}
    (hw : w ∈ x.waiting) {c : Parcel} (hc : s.slot w.slot = .waiting c) :
    (s.terminalBreak p cause).slot w.slot = .done c (directOutcome .notSent cause) := by
  rw [terminalBreak_of_tx htx, slot_withTx]
  exact slot_settleAll_of_mem (breakOutcomes_slots_nodup hheld htx)
    (List.mem_append_right _ (List.mem_map_of_mem hw)) (.inl hc)

theorem State.slot_terminalBreak_of_notHeld (htx : s.tx p = some x) {k : SlotId} (hwindow : ∀ e ∈ x.window, e.slot ≠ k)
    (hwaiting : ∀ w ∈ x.waiting, w.slot ≠ k) : (s.terminalBreak p cause).slot k = s.slot k := by
  rw [terminalBreak_of_tx htx, slot_withTx]
  refine slot_settleAll_of_notMem fun d hd => ?_
  rcases List.mem_append.mp hd with hd | hd
  · obtain ⟨e, he, rfl⟩ := List.mem_map.mp hd
    exact hwindow e he
  · obtain ⟨w, hw, rfl⟩ := List.mem_map.mp hd
    exact hwaiting w hw

end

/-- Settles O34: the flag and the line decide what counts as sent, and the session's slots, all outstanding and all different,
receive their outcomes one after another. -/
theorem terminalBreak : Obligations.TerminalBreak := by
  refine ⟨fun s p cause e c hc => ?_, fun s p cause x htx hheld => ⟨?_, fun e he => ?_, fun w hw => ?_, fun k => ?_⟩⟩
  · rw [State.countsSent_iff hc, State.sending_iff]
  · exact State.terminalBreak_eq hheld htx
  · obtain ⟨c, hc⟩ := slot_inFlight_of_heldOnce hheld htx he
    exact ⟨c, hc, State.slot_terminalBreak_of_window hheld htx he hc⟩
  · obtain ⟨c, hc⟩ := slot_waiting_of_heldOnce hheld htx hw
    exact ⟨c, hc, State.slot_terminalBreak_of_waiting hheld htx hw hc⟩
  · exact State.slot_terminalBreak_of_notHeld htx

end Sys2Proof.Machine
end

section
/-!
PROOFS. The answer queue: when an answer has room, and where it is placed (R126, R137).
-/
namespace Sys2Proof.Machine

open Sys2Proof

theorem AnswerEntry.waitsFor_iff {e : AnswerEntry} {d : StationId} {x : Subject} :
    e.waitsFor d x = true ↔ e.dest = d ∧ e.subject = x ∧ e.onLine = false := by
  simp [AnswerEntry.waitsFor, and_assoc]

theorem any_waitsFor_iff {l : List AnswerEntry} {d : StationId} {x : Subject} :
    (l.any fun e => e.waitsFor d x) = true ↔ ∃ e ∈ l, e.dest = d ∧ e.subject = x ∧ e.onLine = false := by
  simp only [List.any_eq_true, AnswerEntry.waitsFor_iff]

theorem State.answerRoom_iff {s : State} {d : StationId} {x : Subject} :
    s.answerRoom d x = true ↔
      (∃ e ∈ s.answers, e.dest = d ∧ e.subject = x ∧ e.onLine = false) ∨ s.answers.length < Config.answerCap := by
  rw [State.answerRoom, Bool.or_eq_true, any_waitsFor_iff, decide_eq_true_iff]

section
variable {d : StationId} {x : Subject} (c : AnswerCode) (n : Seq)

theorem placeInQueue_of_none {l : List AnswerEntry}
    (hnone : ∀ e ∈ l, ¬ (e.dest = d ∧ e.subject = x ∧ e.onLine = false)) :
    placeInQueue l d x c n = l ++ [⟨d, x, c, n, false⟩] :=
  if_neg fun h => have ⟨e, he, hwaits⟩ := any_waitsFor_iff.mp h; hnone e he hwaits

/-- The overwriting pass of R137 leaves entries under other keys, and the entry on the line, as they stand. -/
theorem map_overwrite_of_none {l : List AnswerEntry}
    (hnone : ∀ e ∈ l, ¬ (e.dest = d ∧ e.subject = x ∧ e.onLine = false)) :
    (l.map fun e => if e.waitsFor d x then { e with code := c, number := n } else e) = l :=
  (List.map_congr_left fun e he => if_neg fun h => hnone e he (AnswerEntry.waitsFor_iff.mp h)).trans (List.map_id' l)

theorem placeInQueue_of_waiting {front back : List AnswerEntry} {e : AnswerEntry} (hdest : e.dest = d)
    (hsubject : e.subject = x) (hoff : e.onLine = false)
    (hrest : ∀ f ∈ front ++ back, ¬ (f.dest = d ∧ f.subject = x ∧ f.onLine = false)) :
    placeInQueue (front ++ e :: back) d x c n = front ++ ⟨d, x, c, n, false⟩ :: back := by
  have hwaits : e.waitsFor d x = true := AnswerEntry.waitsFor_iff.mpr ⟨hdest, hsubject, hoff⟩
  have hfront := map_overwrite_of_none c n fun f hf => hrest f (List.mem_append_left back hf)
  have hback := map_overwrite_of_none c n fun f hf => hrest f (List.mem_append_right front hf)
  have hany : ((front ++ e :: back).any fun f => f.waitsFor d x) = true :=
    List.any_eq_true.mpr ⟨e, List.mem_append_cons_self, hwaits⟩
  rw [placeInQueue, if_pos hany, List.map_append, List.map_cons, hfront, hback, if_pos hwaits, hdest, hsubject, hoff]

end

/-- Settles O39: the queue's test for the key decides both the room and the branch that places the answer. -/
theorem answerPlacing : Obligations.AnswerPlacing := by
  refine fun s d x c n => ⟨State.answerRoom_iff, placeInQueue_of_none c n, ?_⟩
  intro front back e hqueue hdest hsubject hoff hrest
  rw [hqueue]
  exact placeInQueue_of_waiting c n hdest hsubject hoff hrest

end Sys2Proof.Machine
end

section
/-!
PROOFS. The load of an IDLE lane (R146): the roster as a set of stations, and one equation for each kind of waiting list.
-/
namespace Sys2Proof.Machine

open Sys2Proof

/-! ### Sets of stations -/

theorem hasStation_addStation {m : StationSet} {p q : StationId} :
    hasStation (addStation m q) p = true ↔ hasStation m p = true ∨ p = q := by
  rw [hasStation, addStation, oneStation, BitVec.getLsbD_or, BitVec.getLsbD_twoPow, Bool.or_eq_true, Bool.and_eq_true,
    decide_eq_true_iff, decide_eq_true_iff, and_iff_right q.isLt, ← Fin.ext_iff, eq_comm (a := q)]
  rfl

theorem hasStation_foldl_addStation {l : List StationId} {m : StationSet} {p : StationId} :
    hasStation (l.foldl addStation m) p = true ↔ hasStation m p = true ∨ p ∈ l := by
  induction l generalizing m with
  | nil => simp
  | cons q l ih => rw [List.foldl_cons, ih, hasStation_addStation, List.mem_cons, or_assoc]

theorem hasStation_zero (p : StationId) : hasStation 0 p = false := BitVec.getLsbD_zero

theorem hasStation_stationsWhere {cond : StationId → Bool} {p : StationId} :
    hasStation (stationsWhere cond) p = true ↔ p ∈ allStations.filter cond := by
  rw [stationsWhere, hasStation_foldl_addStation, hasStation_zero, Bool.false_eq_true, false_or]

theorem stationsWhere_eq_zero {cond : StationId → Bool} : stationsWhere cond = 0 ↔ allStations.filter cond = [] := by
  constructor
  · intro h
    refine List.eq_nil_iff_forall_not_mem.mpr fun p hp => ?_
    rw [← hasStation_stationsWhere, h, hasStation_zero] at hp
    cases hp
  · intro h
    rw [stationsWhere, h, List.foldl_nil]

/-! ### The head of the waiting list -/

theorem State.groupOfSlot_of_waiting {s : State} {k : SlotId} {c : Parcel} {g : GroupId} (h : s.slot k = .waiting c)
    (hd : c.dest = .group g) : s.groupOfSlot k = g := by
  simp only [State.groupOfSlot, h, Slot.parcel, hd]

theorem State.toInFlight_of_waiting {s : State} {k : SlotId} {c : Parcel} (h : s.slot k = .waiting c) :
    s.toInFlight k = s.withSlot k (.inFlight { c with sentOnce := false }) := by
  simp only [State.toInFlight, h]

/-- The lane takes a WAITING group parcel with its group's roster and the counter's value (R146, R147). -/
theorem State.loadLane_of_waiting {s : State} {k : SlotId} {c : Parcel} {g : GroupId} (h : s.slot k = .waiting c)
    (hd : c.dest = .group g) (rest : List SlotId) :
    s.loadLane k rest = { s.withSlot k (.inFlight { c with sentOnce := false }) with
      gu := { waiting := rest, lane := some (Lane.loaded k g s.gu.counter (s.roster g)), counter := s.gu.counter + 1 } } := by
  simp only [State.loadLane, State.groupOfSlot_of_waiting h hd, State.toInFlight_of_waiting h]

/-! ### The load over a waiting list -/

/-- The Group Unit's waiting list replaced. -/
def State.withGroupWaiting (s : State) (w : List SlotId) : State := { s with gu := { s.gu with waiting := w } }

theorem State.setOutcome_withGroupWaiting (s : State) (w : List SlotId) (k : SlotId) (o : ParcelOutcome) :
    (s.withGroupWaiting w).setOutcome k o = (s.setOutcome k o).withGroupWaiting w := by
  have hslot : (s.withGroupWaiting w).slot k = s.slot k := rfl
  simp only [State.setOutcome, hslot]
  cases s.slot k <;> rfl

theorem State.loadLane_withGroupWaiting (s : State) (w : List SlotId) (k : SlotId) (rest : List SlotId) :
    (s.withGroupWaiting w).loadLane k rest = s.loadLane k rest := by
  have hslot : (s.withGroupWaiting w).slot k = s.slot k := rfl
  have hgroup : (s.withGroupWaiting w).groupOfSlot k = s.groupOfSlot k := rfl
  simp only [State.loadLane, State.toInFlight, hslot, hgroup]
  cases s.slot k <;> rfl

/-- The load over a list reads that list alone, and not the one the Group Unit holds. -/
theorem State.loadFrom_withGroupWaiting (s : State) (w l : List SlotId) :
    (s.withGroupWaiting w).loadFrom l = s.loadFrom l := by
  induction l generalizing s with
  | nil => rfl
  | cons k rest ih =>
    have hroster : (s.withGroupWaiting w).roster ((s.withGroupWaiting w).groupOfSlot k) = s.roster (s.groupOfSlot k) := rfl
    rw [State.loadFrom, State.loadFrom, hroster, State.setOutcome_withGroupWaiting, ih, State.loadLane_withGroupWaiting]

theorem State.load_of_idle {s : State} (hlane : s.gu.lane = none) (hst : s.mu.station = .member) :
    s.load = s.loadFrom s.gu.waiting := if_pos ⟨hlane, hst⟩

/-- A BUSY lane, a station that is not MEMBER, or an empty waiting list: nothing to load (R146). -/
theorem State.load_of_nothing {s : State} (h : s.gu.lane ≠ none ∨ s.mu.station ≠ .member ∨ s.gu.waiting = []) :
    s.load = s := by
  by_cases hidle : s.gu.lane = none ∧ s.mu.station = .member
  · have hnil : s.gu.waiting = [] := by simpa [hidle.1, hidle.2] using h
    rw [State.load_of_idle hidle.1 hidle.2, hnil, State.loadFrom, ← hnil]
  · exact if_neg hidle

section
variable {s : State} {k : SlotId} {rest : List SlotId} {c : Parcel} {g : GroupId}

/-- A head with an empty roster ends with both sets empty, and the load goes on from the state it leaves (R92, R146). -/
theorem State.load_of_rosterEmpty (hlane : s.gu.lane = none) (hst : s.mu.station = .member)
    (hwaiting : s.gu.waiting = k :: rest) (hk : s.slot k = .waiting c) (hd : c.dest = .group g) (hempty : s.roster g = 0) :
    s.load = ((s.setOutcome k (groupOutcome .notSent .rosterEmpty 0 0)).withGroupWaiting rest).load := by
  have hidle : ∀ o, ((s.setOutcome k o).withGroupWaiting rest).load = (s.setOutcome k o).loadFrom rest := fun o => by
    rw [State.load_of_idle (by simpa [State.withGroupWaiting] using hlane) (by simpa [State.withGroupWaiting] using hst)]
    exact State.loadFrom_withGroupWaiting _ rest rest
  rw [State.load_of_idle hlane hst, hwaiting, State.loadFrom, State.groupOfSlot_of_waiting hk hd, if_pos hempty, hidle]

/-- A head with a roster takes the lane (R146). -/
theorem State.load_of_roster (hlane : s.gu.lane = none) (hst : s.mu.station = .member)
    (hwaiting : s.gu.waiting = k :: rest) (hk : s.slot k = .waiting c) (hd : c.dest = .group g) (hroster : s.roster g ≠ 0) :
    s.load = { s.withSlot k (.inFlight { c with sentOnce := false }) with
      gu := { waiting := rest, lane := some (Lane.loaded k g s.gu.counter (s.roster g)), counter := s.gu.counter + 1 } } := by
  rw [State.load_of_idle hlane hst, hwaiting, State.loadFrom, State.groupOfSlot_of_waiting hk hd, if_neg hroster,
    State.loadLane_of_waiting hk hd]

end

/-- Settles O45: the head's roster is the set of the group's members, and whether it is empty decides between the two rules. -/
theorem load : Obligations.Load := by
  refine fun s => ⟨State.load_of_nothing, fun k rest c g hlane hst hwaiting hk hd => ⟨fun hnone => ?_, fun hsome => ?_⟩⟩
  · rw [State.load_of_rosterEmpty hlane hst hwaiting hk hd (stationsWhere_eq_zero.mpr hnone), State.setOutcome_of_waiting hk]
    rfl
  · have hroster : s.roster g ≠ 0 := fun h => hsome (stationsWhere_eq_zero.mp h)
    exact ⟨s.roster g, fun p => hasStation_stationsWhere, State.load_of_roster hlane hst hwaiting hk hd hroster⟩

end Sys2Proof.Machine
end

section
/-!
PROOFS. The Host Port's answers to a transaction it refuses and to PEER (R161, R164, R168): the argument lengths of Table 11-6,
the bytes of a complete transaction read back, and the two kinds of peer record.
-/
namespace Sys2Proof.Machine

open Sys2Proof Sys2Proof.Safety

/-! ### The rows of Table 11-6 -/

theorem argumentLengthOk_iff {code : Byte} {n : Nat} :
    argumentLengthOk code n = true ↔
      (code = 0x00 ∧ n = 0) ∨ (code = 0x01 ∧ n = 0) ∨ (code = 0x02 ∧ n = 1) ∨ (code = 0x10 ∧ n = 5) ∨ (code = 0x11 ∧ n = 0) ∨
      (code = 0x12 ∧ n = 0) ∨ (code = 0x13 ∧ n = 0) ∨ (code = 0x1F ∧ n = 0) ∨ (code = 0x20 ∧ 2 ≤ n ∧ n ≤ 72) ∨
      (code = 0x21 ∧ n = 2) ∨ (code = 0x30 ∧ n = 0) ∨ (code = 0x31 ∧ n = 0) := by
  unfold argumentLengthOk
  split <;> simp_all [← BitVec.toNat_inj]

/-- The command codes of Table 9-3. -/
def commandCodes : List Nat := [0x00, 0x01, 0x02, 0x10, 0x11, 0x12, 0x13, 0x1F, 0x20, 0x21, 0x30, 0x31]

-- `decodeCommand` tests the code against one row after another. The option lets `change` see the first of these tests, where
-- `split` would build the case analysis over all rows and argument shapes at once.
set_option smartUnfolding false in
theorem decodeCommand_of_unknownCode {code : Byte} (h : code.toNat ∉ commandCodes) (addr : StationId) (rate : Fin 4)
    (tag : Byte) (args : List Byte) : decodeCommand addr rate tag code args = .badCommand tag code args := by
  simp only [commandCodes, List.mem_cons, List.not_mem_nil, not_or] at h
  obtain ⟨h00, h01, h02, h10, h11, h12, h13, h1F, h20, h21, h30, h31, -⟩ := h
  unfold decodeCommand
  change dite (code.toNat = 0x00) _ _ = _
  rw [dif_neg h00, dif_neg h01, dif_neg h02, dif_neg h10, dif_neg h11, dif_neg h12, dif_neg h13, dif_neg h1F, dif_neg h20,
    dif_neg h21, dif_neg h30, dif_neg h31]

/-- The port reads a command only where Table 11-6 allows the number of arguments (R164). -/
theorem decodeCommand_of_refused {code : Byte} {args : List Byte} (hlen : args.length ≤ 72)
    (hrefused : argumentLengthOk code args.length = false) (addr : StationId) (rate : Fin 4) (tag : Byte) :
    decodeCommand addr rate tag code args = .badCommand tag code args := by
  unfold argumentLengthOk at hrefused
  unfold decodeCommand
  split at hrefused
  case h_1 hcode | h_2 hcode | h_5 hcode | h_6 hcode | h_7 hcode | h_8 hcode | h_11 hcode | h_12 hcode =>
    rw [hcode]
    match args with
    | [] => cases hrefused
    | _ :: _ => rfl
  case h_3 hcode => -- PEER
    rw [hcode]
    match args with
    | [] | _ :: _ :: _ => rfl
    | [_] => cases hrefused
  case h_4 hcode => -- CONFIGURE
    rw [hcode]
    match args with
    | [] | [_] | [_, _] | [_, _, _] | [_, _, _, _] | _ :: _ :: _ :: _ :: _ :: _ :: _ => rfl
    | [_, _, _, _, _] => cases hrefused
  case h_9 hcode => -- POST
    rw [hcode]
    match args with
    | [] | [_] => rfl
    | _ :: _ :: _ => exact absurd ⟨Nat.le_add_left 2 _, hlen⟩ (of_decide_eq_false hrefused)
  case h_10 hcode => -- CANCEL
    rw [hcode]
    match args with
    | [] | [_] | _ :: _ :: _ :: _ => rfl
    | [_, _] => cases hrefused
  case h_13 => exact decodeCommand_of_unknownCode (by simp_all [commandCodes]) addr rate tag args

/-! ### The bytes of a complete transaction -/

/-- The length byte holds every argument length the port takes (R161). -/
theorem toNat_lengthByte {n : Nat} (h : n ≤ 72) : (BitVec.ofNat 8 n).toNat = n := Nat.mod_eq_of_lt (by omega)

/-- A transaction of at most 72 arguments is complete, and the filler after the arguments is not read (R161). -/
theorem decodeTransaction_transactionBytes {args : List Byte} (hlen : args.length ≤ 72) (addr : StationId) (rate : Fin 4)
    (tag code : Byte) (filler : List Byte) :
    decodeTransaction addr rate (transactionBytes tag code args ++ filler) = decodeCommand addr rate tag code args := by
  have hcomplete : transactionComplete (tag :: code :: BitVec.ofNat 8 args.length :: (args ++ filler)) = true := by
    simp [transactionComplete, toNat_lengthByte hlen, hlen]
  simp only [transactionBytes, List.cons_append, decodeTransaction, hcomplete, toNat_lengthByte hlen, if_true, List.take_left]

/-! ### BAD-COMMAND -/

theorem exec_badCommand_of_takes {s : State} (h : takes s) {code : Byte} {args : List Byte} (hlen : args.length ≤ 72)
    (hrefused : argumentLengthOk code args.length = false) (tag : Byte) :
    exec (.badCommand tag code args) s = .next (replied s tag code .badCommand []) := by
  have hexec : exec (.badCommand tag code args) s = execBadCommand tag code args s := rfl
  rw [hexec, execBadCommand, if_neg (Nat.not_lt.mpr hlen), hrefused, if_neg Bool.false_ne_true, State.execute_of_takes h,
    State.csnHigh_replyWith]

/-- Settles O6: outside the rows of Table 11-6 the command's own check refuses, and so does the port's reading of the bytes. -/
theorem badCommand : Obligations.BadCommand := by
  intro s tag code args htakes hlen h00 h01 h02 h10 h11 h12 h13 h1F h20 h21 h30 h31
  have hrefused : argumentLengthOk code args.length = false := by
    simp only [Bool.eq_false_iff, Ne, argumentLengthOk_iff, not_or, not_and_or, Nat.not_le]
    exact ⟨h00, h01, h02, h10, h11, h12, h13, h1F, h20.imp_right .inl, h21, h30, h31⟩
  refine ⟨exec_badCommand_of_takes htakes hlen hrefused tag, fun addr rate filler => ?_⟩
  rw [decodeTransaction_transactionBytes hlen, decodeCommand_of_refused hlen hrefused]

/-! ### PEER -/

theorem stationArg_of_ge {b : Byte} (h : 32 ≤ b.toNat) : stationArg b = none := dif_neg (Nat.not_lt.mpr h)

theorem stationArg_of_eq {b : Byte} {p : StationId} (h : b.toNat = p.val) : stationArg b = some p :=
  (dif_pos (h ▸ p.isLt)).trans (congrArg some (Fin.ext h))

/-- A number above 31 names no entry (R168). -/
theorem exec_peer_of_badValue {s : State} (h : takes s) {number : Byte} (hnumber : 32 ≤ number.toNat) (tag : Byte) :
    exec (.peer tag number) s = .next (replied s tag 0x02 .badValue []) := by
  have hexec : exec (.peer tag number) s = execPeer tag number s := rfl
  rw [hexec, execPeer, State.execute_of_takes h, stationArg_of_ge hnumber]
  rfl

/-- PEER answers the record of the entry its argument names (R168). -/
theorem exec_peer_of_station {s : State} (h : takes s) {number : Byte} {p : StationId} (hnumber : number.toNat = p.val)
    (tag : Byte) : exec (.peer tag number) s = .next (replied s tag 0x02 .ok (s.peerData p)) := by
  have hexec : exec (.peer tag number) s = execPeer tag number s := rfl
  rw [hexec, execPeer, State.execute_of_takes h, stationArg_of_eq hnumber]
  rfl

theorem byteOf_of_toNat_eq {b : Byte} {n : Nat} (h : b.toNat = n) : byteOf n = b :=
  BitVec.eq_of_toNat_eq (by rw [byteOf, BitVec.toNat_ofNat, ← h, Nat.mod_eq_of_lt b.isLt])

/-- The own entry: the configured groups, silence 0 and every optional part absent (R168). -/
theorem State.peerData_of_self {s : State} {p : StationId} (h : (s.peer p).presence = .self) :
    s.peerData p = [byteOf p.val, 2, s.cfg.groups, 0, 0, 0, 0, 0, 0, 0, 0, lastGroupByte (s.peer p).lastGroup] := by
  rw [State.peerData, if_pos h, h]
  rfl

/-- Every other entry, as the peer table holds it (Table 11-9). -/
theorem State.peerData_of_other {s : State} {p : StationId} (h : (s.peer p).presence ≠ .self) :
    s.peerData p = [byteOf p.val, byteOf (s.peer p).presence.code, (s.peer p).groups, byteOf (s.peer p).silence] ++
      sessionBytes (s.peer p).tx ++ rxBytes (s.peer p).rx ++ [lastGroupByte (s.peer p).lastGroup] := if_neg h

theorem byteOf_presenceCode_of_other {x : Presence} (h : x ≠ .self) : byteOf x.code = if x = .present then 1 else 0 := by
  cases x with
  | absent | present => rfl
  | self => exact absurd rfl h

theorem sessionBytes_some (t : TxSession) :
    sessionBytes (some t) = [if t.state = .opening then 1 else 2, byteOf t.window.length, byteOf t.waiting.length,
      byteOf t.retry, byteOf t.hold] := by
  rw [sessionBytes]
  cases t.state <;> rfl

/-- Settles O8: the argument names an entry or none, and the presence of the entry decides between the two kinds of record. -/
theorem peer : Obligations.Peer := by
  refine fun s tag number htakes => ⟨fun hge => exec_peer_of_badValue htakes hge tag, fun p hnumber => ?_⟩
  rw [exec_peer_of_station htakes hnumber]
  refine ⟨fun _ hself => ?_, fun _ hother => ?_⟩
  · rw [State.peerData_of_self hself, byteOf_of_toNat_eq hnumber]
    cases (s.peer p).lastGroup <;> rfl
  · rw [State.peerData_of_other hother, byteOf_of_toNat_eq hnumber, byteOf_presenceCode_of_other hother]
    cases (s.peer p).tx with
    | none => cases (s.peer p).rx <;> cases (s.peer p).lastGroup <;> rfl
    | some t =>
      rw [sessionBytes_some]
      cases (s.peer p).rx <;> cases (s.peer p).lastGroup <;> rfl

end Sys2Proof.Machine
end

section
/-!
PROOFS. A notice raised with fewer than 16 on the report list and with 16 (R185), and the two lists that ATN follows (R176).
-/
namespace Sys2Proof.Machine

open Sys2Proof

/-! ### The number of notices -/

@[simp] theorem noticeCount_append (l m : List ReportEntry) : noticeCount (l ++ m) = noticeCount l + noticeCount m :=
  List.countP_append

@[simp] theorem noticeCount_cons_notice (kind : NoticeKind) (peer : Option StationId) (missed : Bool) (l : List ReportEntry) :
    noticeCount (.notice kind peer missed :: l) = noticeCount l + 1 := List.countP_cons_of_pos rfl

@[simp] theorem noticeCount_nil : noticeCount [] = 0 := rfl

/-! ### A notice raised -/

theorem reportWithNotice_of_room {l : List ReportEntry} (h : noticeCount l < 16) (kind : NoticeKind) (peer : Option StationId) :
    reportWithNotice l kind peer = l ++ [.notice kind peer false] := if_pos h

/-- The oldest notice stands behind outcome entries only, and it is the one that a full list gives up (R185). -/
theorem reportWithNotice_of_full {front back : List ReportEntry} {oldest : ReportEntry}
    (hfull : 16 ≤ noticeCount (front ++ oldest :: back)) (holdest : oldest.isNotice = true)
    (hfront : ∀ e ∈ front, e.isNotice = false) (kind : NoticeKind) (peer : Option StationId) :
    reportWithNotice (front ++ oldest :: back) kind peer = front ++ back ++ [.notice kind peer true] := by
  have herase : (front ++ oldest :: back).eraseP ReportEntry.isNotice = front ++ back := by
    rw [List.eraseP_append_right _ fun e he => by simp [hfront e he], List.eraseP_cons_of_pos holdest]
  rw [reportWithNotice, if_neg (Nat.not_lt.mpr hfull), herase]

/-! ### ATN -/

theorem State.atn_iff (s : State) : s.atn = true ↔ s.inReset = false ∧ (s.delivered ≠ [] ∨ s.report ≠ []) := by
  simp [State.atn]

/-- Settles O17: the list has room for the notice, or its entries before the oldest notice are outcomes and stay. -/
theorem noticesAndAtn : Obligations.NoticesAndAtn := by
  refine ⟨fun l kind peer => ⟨fun hroom => reportWithNotice_of_room hroom kind peer, ?_, outcomes_reportWithNotice l kind peer⟩,
    State.atn_iff⟩
  rintro front back kind' peer' missed hfull rfl hfront
  have hraised := reportWithNotice_of_full hfull.ge rfl hfront kind peer
  refine ⟨hraised, ?_⟩
  simp only [noticeCount_append, noticeCount_cons_notice] at hfull
  simp only [hraised, noticeCount_append, noticeCount_cons_notice, noticeCount_nil]
  omega

end Sys2Proof.Machine
end

section
/-!
PROOFS. What a step can do, said once: every row but FETCH, REPORT and the resets is a row of acts of the units, each with the guard
under which the model performs it. The invariants are proved act by act.
-/
namespace Sys2Proof.Machine

open Sys2Proof Sys2Proof.Safety

/-! ### The guards of the acts -/

/-- The counts of Table 3-1 are in their ranges. -/
def TransmitUnit.countsInRange (u : TransmitUnit) : Prop :=
  u.failures ≤ 8 ∧ u.arbitrationBits ≤ 7 ∧ u.breakoffBits ≤ 12

/-- The attempt, if there is one, goes on with its buffer as it stands. -/
def TransmitUnit.goesOn (t u : TransmitUnit) : Prop :=
  u.buffer = t.buffer ∧ (u.state = .wait ↔ t.state = .wait) ∧ (t.countsInRange → u.countsInRange)

/-- The transmitter is back in WAIT with its buffer empty (R39). -/
def TransmitUnit.stops (t u : TransmitUnit) : Prop :=
  u.state = .wait ∧ u.buffer = none ∧ (t.countsInRange → u.countsInRange)

/-- The Line Monitor's record after a sample, a bit boundary or a closing mark (R3, R10). -/
def LineMonitor.goesOn (lm lm' : LineMonitor) : Prop :=
  (∃ b, lm' = lm.afterSample b) ∨ (∃ v, lm' = { lm with sampled := v }) ∨ lm' = .atMark

/-- A session record that holds the same parcels under the same sequences, its counts within the limits of R108 and R115. -/
def TxSession.edited (limit : Nat) (x y : TxSession) : Prop :=
  y.state = x.state ∧ y.waiting = x.waiting ∧ y.window = x.window ∧ y.nextSeq = x.nextSeq ∧
    (x.retry ≤ limit → y.retry ≤ limit) ∧ (x.hold ≤ 15 → y.hold ≤ 15)

/-- The sets of a lane record are disjoint and make up its roster, and a member is still pending (R145, R151). -/
def Lane.consistent (l : Lane) : Prop :=
  l.pending &&& l.answered = 0 ∧ l.pending &&& l.lost = 0 ∧ l.answered &&& l.lost = 0 ∧
    l.pending ||| l.answered ||| l.lost = l.roster ∧ l.pending ≠ 0

/-! ### The acts -/

/-- One act of a unit, with the guard under which the model performs it. -/
inductive Act : State → State → Prop
  /-- The queue, RSTN, the port, the Frame Receiver and the reply: no invariant reads them. -/
  | frame (s : State) (pending : List Instr) (inReset : Bool) (port : Port) (fr : FrameReceiver) (reply : Reply) :
      Act s { s with pending := pending, inReset := inReset, port := port, fr := fr, reply := reply }
  /-- The timers and the flags of the Membership Unit. -/
  | flags (s : State) (mu : MembershipUnit) : mu.station = s.mu.station → mu.number = s.mu.number → mu.rate = s.mu.rate →
      Act s { s with mu := mu }
  | line (s : State) (lm : LineMonitor) : s.lm.goesOn lm → Act s { s with lm := lm }
  | transmit (s : State) (u : TransmitUnit) : s.tu.goesOn u → Act s { s with tu := u }
  | raise (s : State) (kind : NoticeKind) (peer : Option StationId) : Act s (s.raise kind peer)
  /-- An attempt ends whose item is no answer (R45). -/
  | stop (s : State) (u : TransmitUnit) : s.tu.stops u → s.tu.buffer.map (·.owner) ≠ some .answer → Act s { s with tu := u }
  /-- An attempt with an answer ends with its result (R139, R140). -/
  | stopAnswer (s : State) (u : TransmitUnit) (isSent : Bool) : s.tu.stops u → s.tu.buffer.map (·.owner) = some .answer →
      Act s { s with tu := u, answers := queueAfterResult s.answers isSent }
  /-- An attempt begins whose item is no answer (R45). -/
  | begin (s : State) (o : Offer) : s.tu.state = .wait → (s.mu.station = .member ∨ s.mu.station = .leaving) → o.owner ≠ .answer →
      Act s { s with tu := s.tu.begin o }
  /-- An attempt begins with the oldest answer that is not on the line (R138). -/
  | beginAnswer (s : State) (o : Offer) : s.tu.state = .wait → s.mu.station = .member → o.owner = .answer →
      Act s { s with answers := markOldest s.answers, tu := s.tu.begin o }
  /-- A change of station state that no teardown goes with (R40). -/
  | become (s : State) (st : StationState) : s.mu.station ≠ .member → Act s (s.become st)
  /-- MEMBER is left with a teardown (R75). -/
  | teardown (s : State) (st : StationState) (cause : Cause) : s.mu.station = .member → st ≠ .member →
      Act s ((s.become st).teardown cause)
  | clearPeers (s : State) : s.mu.station ≠ .member → Act s s.clearPeers
  /-- The presence part of another station's entry (R65, R70 to R72). -/
  | presence (s : State) (p : StationId) (pr : Presence) (groups : GroupSet) : (s.peer p).presence ≠ .self →
      (pr = .present ∨ (pr = .absent ∧ groups = 0 ∧ s.mu.station ≠ .member)) → Act s (s.withPresence p pr groups 0)
  | rx (s : State) (p : StationId) (e : Option Seq) : (e = none ∨ (s.peer p).rx ≠ none ∨ (s.mu.station = .member ∧ (s.peer p).presence = .present)) →
      Act s (s.withRx p e)
  | lastGroup (s : State) (p : StationId) (q : Option Seq) : Act s (s.withLastGroup p q)
  | answer (s : State) (p : StationId) (x : Subject) (c : AnswerCode) (n : Seq) : s.mu.station = .member →
      Act s (s.answer p x c n)
  | accept (s : State) (k : SlotId) (p : StationId) (origin : Origin) (payload : List Byte) : s.freeSlot = some k →
      Act s (s.accept k p origin payload)
  | session (s : State) (p : StationId) (x y : TxSession) : s.tx p = some x → x.edited s.cfg.retryLimit y →
      Act s (s.withTx p (some y))
  | opened (s : State) (p : StationId) (x : TxSession) : s.tx p = some x → x.state = .opening →
      Act s (s.withTx p (some x.becomeOpen))
  | markSent (s : State) (k : SlotId) : Act s (s.markSent k)
  /-- The first `n` entries leave the window with their outcomes (R112). -/
  | acknowledge (s : State) (p : StationId) (x y : TxSession) (n : Nat) (o : SlotId → ParcelOutcome) : s.tx p = some x →
      x.state = .opened → n ≤ x.window.length →
      ({ x with window := x.window.drop n } : TxSession).edited s.cfg.retryLimit y →
      Act s ((s.setOutcomes ((x.window.take n).map (·.slot)) o).withTx p (some y))
  | terminalBreak (s : State) (p : StationId) (cause : Cause) : Act s (s.terminalBreak p cause)
  | reopeningBreak (s : State) (p : StationId) (cause : Cause) : Act s (s.reopeningBreak p cause)
  | enterWindow (s : State) (p : StationId) (x : TxSession) : s.tx p = some x → x.state = .opened →
      x.window.length < s.cfg.window → Act s (s.enterWindow p)
  | withdraw (s : State) (k : SlotId) : Act s (s.withdraw k)
  | postDirect (s : State) (k : SlotId) (p : StationId) (urgent : Bool) (payload : List Byte) : s.outboundSlot = some k →
      s.mu.station = .member → (s.peer p).presence = .present →
      Act s ((s.fillOutbound k (.station p) urgent payload).queueDirect p k urgent)
  | postGroup (s : State) (k : SlotId) (g : GroupId) (urgent : Bool) (payload : List Byte) : s.outboundSlot = some k →
      s.mu.station = .member → Act s ((s.fillOutbound k (.group g) urgent payload).queueGroup k urgent)
  | lane (s : State) (l l' : Lane) : s.gu.lane = some l → l'.slot = l.slot → (l.consistent → l'.consistent) →
      Act s (s.withLane l')
  /-- The lane's parcel ends and the load follows (R151, R153). -/
  | endLane (s : State) (l l' : Lane) (code : OutcomeCode) (cause : Cause) : s.gu.lane = some l → l'.slot = l.slot →
      Act s ((s.endLane l' code cause).load)
  | configure (s : State) (c : ConfigBlock) (a b d e f : Byte) : s.mu.station = .detached → configArgs a b d e f = some c →
      Act s { s with cfg := c }

/-- An act, or one of the two events of the Membership Unit in whose middle an invariant is broken: the loss of a peer (R74) and
the ageing of the peer table (R68). -/
inductive Deed : State → State → Prop
  | act {s t : State} : Act s t → Deed s t
  | peerAbsent (s : State) (p : StationId) (cause : Cause) : (s.peer p).presence = .present → Deed s (s.peerAbsent p cause)
  | age (s : State) : Deed s s.age

/-- Acts one after another. -/
abbrev Acts : State → State → Prop := Relation.ReflTransGen Act

/-- Deeds one after another. -/
abbrev Deeds : State → State → Prop := Relation.ReflTransGen Deed

theorem Acts.deeds {s t : State} (h : Acts s t) : Deeds s t := by
  induction h with
  | refl => exact .refl
  | tail _ h ih => exact .tail ih (.act h)

theorem Deed.deeds {s t : State} (h : Deed s t) : Deeds s t := Relation.ReflTransGen.single h

theorem Deeds.refl (s : State) : Deeds s s := Relation.ReflTransGen.refl

theorem Deeds.trans {s t u : State} (h : Deeds s t) (h' : Deeds t u) : Deeds s u := Relation.ReflTransGen.trans h h'

theorem Deeds.then {s t u : State} (h : Deeds s t) (h' : Act t u) : Deeds s u := Relation.ReflTransGen.tail h (.act h')

theorem Act.deeds {s t : State} (h : Act s t) : Deeds s t := Deed.deeds (.act h)

theorem Act.thenDeeds {s t u : State} (h : Act s t) (h' : Deeds t u) : Deeds s u := Relation.ReflTransGen.head (.act h) h'

/-- What every deed keeps, deeds one after another keep. -/
theorem Deeds.keep {I : State → Prop} (hdeed : ∀ {s t}, Deed s t → I s → I t) {s t : State} (h : Deeds s t) (hs : I s) :
    I t := by
  induction h with
  | refl => exact hs
  | tail _ h ih => exact hdeed h ih

theorem Acts.refl (s : State) : Acts s s := Relation.ReflTransGen.refl

theorem Act.acts {s t : State} (h : Act s t) : Acts s t := Relation.ReflTransGen.single h

theorem Acts.then {s t u : State} (h : Acts s t) (h' : Act t u) : Acts s u := Relation.ReflTransGen.tail h h'

theorem Act.thenActs {s t u : State} (h : Act s t) (h' : Acts t u) : Acts s u := Relation.ReflTransGen.head h h'

theorem Acts.trans {s t u : State} (h : Acts s t) (h' : Acts t u) : Acts s u := Relation.ReflTransGen.trans h h'

/-- What every act keeps, acts one after another keep. -/
theorem Acts.keep {I : State → Prop} (hact : ∀ {s t}, Act s t → I s → I t) {s t : State} (h : Acts s t) (hs : I s) : I t := by
  induction h with
  | refl => exact hs
  | tail _ h ih => exact hact h ih

/-! ### Replies and flags -/

theorem State.csnHigh_act (s : State) : Act s s.csnHigh := .frame s s.pending s.inReset .idle s.fr s.reply

theorem State.replyWith_act (s : State) (tag code : Byte) (r : Result) (d : List Byte) : Act s (s.replyWith tag code r d) :=
  .frame s s.pending s.inReset s.port s.fr ⟨tag, code, r, d⟩

/-! ### The Transmit Unit's record -/

theorem TransmitUnit.stops_toWait (t : TransmitUnit) : t.stops t.toWait :=
  ⟨rfl, rfl, fun ⟨hf, _, _⟩ => ⟨hf, Nat.zero_le _, Nat.zero_le _⟩⟩

theorem TransmitUnit.stops_afterSent (t : TransmitUnit) : t.stops t.afterSent := by
  unfold TransmitUnit.afterSent
  split <;> exact ⟨rfl, rfl, fun _ => ⟨Nat.zero_le _, Nat.zero_le _, Nat.zero_le _⟩⟩

theorem TransmitUnit.stops_afterFailed (t : TransmitUnit) : t.stops t.afterFailed :=
  ⟨rfl, rfl, fun _ => ⟨Nat.min_le_left _ _, Nat.zero_le _, Nat.zero_le _⟩⟩

/-- The fields that no invariant reads (R42, R53, R1). -/
theorem TransmitUnit.goesOn_flags (t : TransmitUnit) (deferred : Bool) (pointer : Position) (lout : Level) :
    t.goesOn { t with deferred := deferred, pointer := pointer, lout := lout } := ⟨rfl, Iff.rfl, id⟩

theorem TransmitUnit.goesOn_moveOn {t : TransmitUnit} (h : t.state ≠ .wait) : t.goesOn t.moveOn := by
  refine ⟨rfl, ?_, fun ⟨hf, ha, hb⟩ => ⟨hf, ?_, hb⟩⟩
  · unfold TransmitUnit.moveOn
    dsimp only
    split <;> split <;> simp [h]
  · unfold TransmitUnit.moveOn
    dsimp only
    split
    · next hmore => exact hmore.2
    · exact ha

theorem TransmitUnit.goesOn_breakoff {t : TransmitUnit} (h : t.state ≠ .wait) :
    t.goesOn { t with state := .breakoff, breakoffBits := 0 } :=
  ⟨rfl, by simp [h], fun ⟨hf, ha, _⟩ => ⟨hf, ha, Nat.zero_le _⟩⟩

theorem TransmitUnit.goesOn_breaking (t : TransmitUnit) :
    t.goesOn { t with breakoffBits := min Config.breakoffLength (t.breakoffBits + 1) } :=
  ⟨rfl, Iff.rfl, fun ⟨hf, ha, _⟩ => ⟨hf, ha, Nat.min_le_left _ _⟩⟩

/-! ### Sessions -/

@[simp] theorem State.tx_withTx_same (s : State) (p : StationId) (a : Option TxSession) : (s.withTx p a).tx p = a := by
  simp [State.tx, State.peer_withTx]

/-- A retry step is an edit of the session or its terminal break (R108). -/
theorem State.retryStep_acts {s : State} {p : StationId} {x y : TxSession} {go : TxSession → TxSession} (hx : s.tx p = some x)
    (hy : x.edited s.cfg.retryLimit y) (hgo : ∀ z : TxSession, z.edited s.cfg.retryLimit (go z)) (cause : Cause)
    (hretry : y.retry = x.retry) :
    Acts s (s.retryStep p y cause go) := by
  unfold State.retryStep
  split
  · exact (Act.session s p x y hx hy).acts.then (.terminalBreak _ p cause)
  · next hlimit =>
    obtain ⟨hst, hw, hwin, hseq, -, hh⟩ := hy
    obtain ⟨gst, gw, gwin, gseq, gr, gh⟩ := hgo { y with retry := y.retry + 1 }
    refine (Act.session s p x _ hx ⟨gst.trans hst, gw.trans hw, gwin.trans hwin, gseq.trans hseq, fun h => gr ?_, gh ∘ hh⟩).acts
    show y.retry + 1 ≤ s.cfg.retryLimit
    omega

theorem State.openAnswer_acts (s : State) (p : StationId) (c : AnswerCode) (n : Seq) : Acts s (s.openAnswer p c n) := by
  unfold State.openAnswer
  split
  · exact .refl s
  · next x hx =>
    split
    · exact .refl s
    · next hst =>
      have hopening : x.state = .opening := by cases h : x.state <;> simp_all
      cases c with
      | taken =>
        dsimp only
        split
        · exact (Act.opened s p x hx hopening).acts
        · exact .refl s
      | refused =>
        refine State.retryStep_acts hx ⟨rfl, rfl, rfl, rfl, id, id⟩ ?_ _ rfl
        exact fun z => ⟨rfl, rfl, rfl, rfl, id, id⟩
      | gap | hold | noSession => exact .refl s

theorem State.openResult_acts (s : State) (p : StationId) (b : Bool) : Acts s (s.openResult p b) := by
  unfold State.openResult
  split
  · exact .refl s
  · next x hx =>
    split
    · split <;> exact Act.acts (.session s p x _ hx ⟨rfl, rfl, rfl, rfl, id, id⟩)
    · exact .refl s

theorem State.tx_markSent (s : State) (k : SlotId) (p : StationId) : (s.markSent k).tx p = s.tx p := by
  simp [State.tx, State.peer]

theorem State.windowResult_acts (s : State) (p : StationId) (q : Seq) (b : Bool) : Acts s (s.windowResult p q b) := by
  unfold State.windowResult
  split
  · exact .refl s
  · next x hx =>
    split
    · exact .refl s
    · next e he =>
      split
      · exact (Act.markSent s e.slot).thenActs
          (Act.acts (.session _ p x _ (by rw [State.tx_markSent, hx]) ⟨rfl, rfl, rfl, rfl, id, id⟩))
      · exact Act.acts (.session s p x _ hx ⟨rfl, rfl, rfl, rfl, id, id⟩)

/-- What an answer does after its removals is an edit of the session that is left, or that edit and the terminal break (R113 to
R115). -/
theorem State.actOnAnswer_acts {s u : State} {p : StationId} {x : TxSession} {gone rest : List WindowEntry}
    (hcfg : u.cfg = s.cfg)
    (hack : ∀ y, ({ x with window := rest } : TxSession).edited s.cfg.retryLimit y → Act s (u.withTx p (some y)))
    {c : AnswerCode} (hno : c ≠ .noSession) (href : c ≠ .refused) : Acts s (u.actOnAnswer p x c gone rest) := by
  have hbreak : ∀ cause, Acts s ((u.withTx p (some { x with window := rest })).terminalBreak p cause) := fun cause =>
    (hack _ ⟨rfl, rfl, rfl, rfl, id, id⟩).acts.then (.terminalBreak _ p cause)
  have hemptied : rest = [] → Acts s (u.withTx p (some x.onEmptied)) := fun hnil =>
    Act.acts (hack _ ⟨rfl, rfl, hnil.symm, rfl, id, id⟩)
  unfold State.actOnAnswer
  cases c with
  | taken => exact Act.acts (hack _ ⟨rfl, rfl, rfl, rfl, fun _ => Nat.zero_le _, fun _ => Nat.zero_le _⟩)
  | gap =>
    dsimp only
    split
    · next hnil => exact hemptied hnil
    · unfold State.retryStep
      split
      · exact hbreak _
      · next hlimit =>
        have hlimit : x.retry ≠ s.cfg.retryLimit := hcfg ▸ hlimit
        exact Act.acts (hack _ ⟨rfl, rfl, rfl, rfl, fun h => Nat.lt_of_le_of_ne h hlimit, id⟩)
  | hold =>
    dsimp only
    split
    · next hnil => exact hemptied hnil
    · split
      · exact hbreak _
      · next hlimit => exact Act.acts (hack _ ⟨rfl, rfl, rfl, rfl, id, fun h => Nat.lt_of_le_of_ne h hlimit⟩)
  | noSession => exact absurd rfl hno
  | refused => exact absurd rfl href

theorem State.dataAnswer_acts (s : State) (p : StationId) (c : AnswerCode) (n : Seq) : Acts s (s.dataAnswer p c n) := by
  unfold State.dataAnswer
  split
  · exact .refl s
  · next x hx =>
    split
    · exact .refl s
    · next hopen =>
      obtain ⟨hst, href⟩ := not_or.mp hopen
      split
      · exact (Act.reopeningBreak s p _).acts
      · next hno =>
        split
        · exact .refl s
        · next hk =>
          have hst : x.state = .opened := by cases h : x.state <;> simp_all
          exact State.actOnAnswer_acts (by simp)
            (fun y hy => .acknowledge s p x y (x.acked n) _ hx hst (Nat.le_of_not_lt hk) hy) hno href

/-! ### The lane -/

theorem State.settleLane_acts {s : State} {l l' : Lane} (hl : s.gu.lane = some l) (hslot : l'.slot = l.slot)
    (hcons : l'.pending ≠ 0 → l.consistent → l'.consistent) : Acts s (s.settleLane l') := by
  unfold State.settleLane
  split
  · split <;> exact (Act.endLane s l l' _ _ hl hslot).acts
  · next hp => exact (Act.lane s l l' hl hslot (hcons hp)).acts

theorem getElem_dropStation (m : StationSet) (p : StationId) {i : Nat} (hi : i < 32) :
    (dropStation m p)[i] = (m[i] && !decide (i = p.val)) := by
  simp [dropStation, oneStation, BitVec.getElem_twoPow]

theorem getElem_addStation (m : StationSet) (p : StationId) {i : Nat} (hi : i < 32) :
    (addStation m p)[i] = (m[i] || decide (i = p.val)) := by
  simp [addStation, oneStation, BitVec.getElem_twoPow]

theorem and_eq_zero_iff_getElem {a b : StationSet} : a &&& b = 0 ↔ ∀ i (hi : i < 32), (a[i] && b[i]) = false := by
  constructor
  · intro h i hi
    rw [← BitVec.getElem_and, h]
    simp
  · intro h
    refine BitVec.eq_of_getElem_eq fun i hi => ?_
    rw [BitVec.getElem_and, h i hi]
    simp

/-- A pending member that moves to the answered set leaves the lane's sets consistent (R145, R150). -/
theorem Lane.consistent_withAnswered {l : Lane} {m : StationId} (hm : hasStation l.pending m = true) (h : l.consistent)
    (hp : (l.withAnswered m).pending ≠ 0) : (l.withAnswered m).consistent := by
  obtain ⟨hpa, hpl, hal, hroster, -⟩ := h
  have hm' : l.pending[m.val] = true := by simpa [hasStation, BitVec.getLsbD_eq_getElem] using hm
  rw [and_eq_zero_iff_getElem] at hpa hpl hal
  refine ⟨and_eq_zero_iff_getElem.mpr fun i hi => ?_, and_eq_zero_iff_getElem.mpr fun i hi => ?_,
    and_eq_zero_iff_getElem.mpr fun i hi => ?_, ?_, hp⟩
  · have := hpa i hi
    by_cases him : i = m.val <;> simp_all [Lane.withAnswered, getElem_dropStation, getElem_addStation]
  · have := hpl i hi
    by_cases him : i = m.val <;> simp_all [Lane.withAnswered, getElem_dropStation]
  · have := hal i hi
    have := hpl i hi
    by_cases him : i = m.val
    · subst him
      simp_all [Lane.withAnswered, getElem_addStation]
    · simp_all [Lane.withAnswered, getElem_addStation]
  · refine BitVec.eq_of_getElem_eq fun i hi => ?_
    rw [show (l.withAnswered m).roster = l.roster from rfl, ← hroster]
    by_cases him : i = m.val
    · subst him
      simp [Lane.withAnswered, getElem_dropStation, getElem_addStation, hm']
    · simp [Lane.withAnswered, getElem_dropStation, getElem_addStation, him]

/-- A pending member that moves to the lost set leaves the lane's sets consistent (R145, R152). -/
theorem Lane.consistent_withLost {l : Lane} {m : StationId} (hm : hasStation l.pending m = true) (h : l.consistent)
    (hp : (l.withLost m).pending ≠ 0) : (l.withLost m).consistent := by
  obtain ⟨hpa, hpl, hal, hroster, -⟩ := h
  have hm' : l.pending[m.val] = true := by simpa [hasStation, BitVec.getLsbD_eq_getElem] using hm
  rw [and_eq_zero_iff_getElem] at hpa hpl hal
  refine ⟨and_eq_zero_iff_getElem.mpr fun i hi => ?_, and_eq_zero_iff_getElem.mpr fun i hi => ?_,
    and_eq_zero_iff_getElem.mpr fun i hi => ?_, ?_, hp⟩
  · have := hpa i hi
    by_cases him : i = m.val <;> simp_all [Lane.withLost, getElem_dropStation]
  · have := hpl i hi
    by_cases him : i = m.val <;> simp_all [Lane.withLost, getElem_dropStation, getElem_addStation]
  · have := hal i hi
    have := hpa i hi
    by_cases him : i = m.val
    · subst him
      simp_all [Lane.withLost, getElem_addStation]
    · simp_all [Lane.withLost, getElem_addStation]
  · refine BitVec.eq_of_getElem_eq fun i hi => ?_
    rw [show (l.withLost m).roster = l.roster from rfl, ← hroster]
    by_cases him : i = m.val
    · subst him
      simp [Lane.withLost, getElem_dropStation, getElem_addStation, hm']
    · simp [Lane.withLost, getElem_dropStation, getElem_addStation, him]

theorem State.groupAnswer_acts (s : State) (m : StationId) (c : AnswerCode) (n : Seq) : Acts s (s.groupAnswer m c n) := by
  unfold State.groupAnswer
  split
  · exact .refl s
  · next l hl =>
    split
    · next hm =>
      obtain ⟨-, -, hm⟩ := hm
      exact State.settleLane_acts hl rfl fun hp h => Lane.consistent_withAnswered hm h hp
    · exact .refl s

theorem State.memberLost_acts (s : State) (m : StationId) : Acts s (s.memberLost m) := by
  unfold State.memberLost
  split
  · exact .refl s
  · next l hl =>
    split
    · next hm => exact State.settleLane_acts hl rfl fun hp h => Lane.consistent_withLost hm h hp
    · exact .refl s

theorem State.laneRetry_acts {s : State} {l : Lane} (hl : s.gu.lane = some l) : Acts s (s.laneRetry l) := by
  unfold State.laneRetry
  split
  · exact (Act.endLane s l l _ _ hl rfl).acts
  · exact Act.acts (.lane s l _ hl rfl id)

theorem State.laneSent_acts (s : State) (k : SlotId) (q : Seq) : Acts s (s.laneSent k q) := by
  unfold State.laneSent
  split
  · exact .refl s
  · next l hl =>
    split
    · exact Act.acts (.lane s l _ hl rfl id)
    · exact .refl s

theorem State.groupPeerEvent_acts (s : State) (p : StationId) : Acts s (s.groupPeerEvent p) :=
  (Act.lastGroup s p none).thenActs (State.memberLost_acts _ p)

/-! ### The receiving side -/

theorem State.receiveOpen_acts {s : State} (h : s.mu.station = .member) (p : StationId) : Acts s (s.receiveOpen p) := by
  unfold State.receiveOpen
  split
  · exact .refl s
  · split
    · next hp => exact (Act.rx s p _ (.inr (.inr ⟨h, of_decide_eq_true hp⟩))).acts.then (.answer _ p _ _ _ h)
    · exact (Act.answer s p _ _ _ h).acts

theorem State.receiveGroup_acts {s : State} (h : s.mu.station = .member) (p : StationId) (g : GroupId) (q : Seq)
    (payload : List Byte) : Acts s (s.receiveGroup p g q payload) := by
  unfold State.receiveGroup
  split
  · exact .refl s
  · split
    · exact (Act.answer s p _ _ _ h).acts
    · split
      · exact .refl s
      · split
        · next k hk =>
          exact ((Act.accept s k p _ payload hk).acts.then (.lastGroup _ p _)).then (.answer _ p _ _ _ (by simpa using h))
        · exact (Act.answer s p _ _ _ h).acts

theorem State.receiveData_acts {s : State} (h : s.mu.station = .member) (p : StationId) (q : Seq) (payload : List Byte) :
    Acts s (s.receiveData p q payload) := by
  unfold State.receiveData
  split
  · exact .refl s
  · split
    · exact (Act.answer s p _ _ _ h).acts
    · next e he =>
      split
      · split
        · next k hk =>
          have hrx : ((s.accept k p .direct payload).peer p).rx ≠ none := by simp [State.peer_congr (s := s), he]
          exact ((Act.accept s k p _ payload hk).acts.then (.rx _ p _ (.inr (.inl hrx)))).then
            (.answer _ p _ _ _ (by simpa using h))
        · exact (Act.answer s p _ _ _ h).acts
      · split <;> exact (Act.answer s p _ _ _ h).acts

/-! ### The Membership Unit -/

theorem State.takeGroups_act {s : State} {p : StationId} (h : (s.peer p).presence ≠ .self) (groups : GroupSet) :
    Act s (s.takeGroups p groups) := .presence s p .present groups h (.inl rfl)

theorem State.liveness_acts (s : State) (p : StationId) : Acts s (s.liveness p) := by
  unfold State.liveness
  split
  · next hp =>
    have hp : (s.peer p).presence = .present := of_decide_eq_true hp
    have hsame : s.withPeer p { s.peer p with silence := 0 } = s.withPresence p .present (s.peer p).groups 0 := by
      rw [State.withPresence, ← hp]
    rw [hsame]
    exact (Act.presence s p _ _ (by simp [hp]) (.inl rfl)).acts
  · exact .refl s

theorem State.clearDeferral_acts (s : State) (m : Msg) : Acts s (s.clearDeferral m) := by
  unfold State.clearDeferral
  split
  · exact Act.acts (.transmit s _ (s.tu.goesOn_flags false s.tu.pointer s.tu.lout))
  · exact .refl s

theorem State.rollInJoining_acts {s : State} (h : s.mu.station = .joining) (p : StationId) (groups : GroupSet) (flags : Byte) :
    Acts s (s.rollInJoining p groups flags) := by
  unfold State.rollInJoining
  split
  · next hp _ => exact (State.takeGroups_act (by simp [hp]) groups).acts
  · exact .refl s
  · next hp _ => exact (State.takeGroups_act (by simp [hp]) groups).acts
  · next hp _ => exact (Act.presence s p _ 0 (by simp [hp]) (.inr ⟨rfl, rfl, by simp [h]⟩)).acts
  · exact .refl s

theorem State.peer_terminalBreak (s : State) (p q : StationId) (cause : Cause) :
    (s.terminalBreak p cause).peer q = if q = p then { s.peer p with tx := none } else s.peer q := by
  cases htx : s.tx p with
  | none =>
    have hbreak : s.terminalBreak p cause = s := by simp only [State.terminalBreak, htx]
    rw [hbreak]
    split
    · next hq =>
      subst hq
      rw [← htx]
      rfl
    · rfl
  | some x =>
    have hsettle : ∀ l, (s.settleAll l).peers = s.peers := fun l => foldl_keeps State.peers _ (fun _ _ => by simp) l s
    rw [State.terminalBreak_of_tx htx, State.peer_withTx, State.peer_congr (hsettle _), State.peer_congr (hsettle _)]

/-- The waiting list that a reopening break leaves: the window's entries that were never sent, returned, ahead of the rest (R122). -/
def State.returnedWaiting (s : State) (p : StationId) (cause : Cause) (x : TxSession) : List WaitingEntry :=
  (x.window.filter fun e => !s.countsSent p cause e).map (fun e => ⟨e.slot, true⟩) ++ x.waiting

/-- The session that a reopening break leaves, if one is left (R122). -/
def State.reopenedTx (s : State) (p : StationId) (cause : Cause) : Option TxSession :=
  (s.tx p).bind fun x =>
    if s.returnedWaiting p cause x = [] then none else some (x.reopened (s.returnedWaiting p cause x))

/-- A reopening break, by its slots and its session: the outcomes of the entries that count as sent, the return of the others, and
the session that is left (R122). -/
theorem State.reopeningBreak_of_tx {s : State} {p : StationId} {cause : Cause} {x : TxSession} (h : s.tx p = some x) :
    s.reopeningBreak p cause =
      ((x.window.filter fun e => !s.countsSent p cause e).foldl (fun t e => t.toWaiting e.slot)
        (s.setOutcomes ((x.window.filter (s.countsSent p cause)).map (·.slot)) fun _ => directOutcome .unconfirmed cause)).withTx p
        (s.reopenedTx p cause) := by
  simp only [State.reopeningBreak, State.reopenedTx, State.returnedWaiting, h, Option.bind_some]
  rfl

theorem State.peer_reopeningBreak (s : State) (p q : StationId) (cause : Cause) :
    (s.reopeningBreak p cause).peer q = if q = p then { s.peer p with tx := s.reopenedTx p cause } else s.peer q := by
  cases htx : s.tx p with
  | none =>
    have hbreak : s.reopeningBreak p cause = s := by simp only [State.reopeningBreak, htx]
    rw [hbreak]
    split
    · next hq =>
      subst hq
      rw [State.reopenedTx, htx, Option.bind_none, ← htx]
      rfl
    · rfl
  | some x =>
    rw [State.reopeningBreak_of_tx htx, State.peer_withTx]
    simp [State.peer_congr (s := s)]

theorem State.presence_peerRestart (s : State) (p : StationId) : ((s.peerRestart p).peer p).presence = (s.peer p).presence := by
  have hgroup : ∀ u : State, (u.groupPeerEvent p).peer p = { u.peer p with lastGroup := none } := fun u => by
    rw [State.groupPeerEvent, State.peer_congr (s := u.withLastGroup p none) (by simp), State.peer_withLastGroup, if_pos rfl]
  rw [State.peerRestart, hgroup, State.sessionPeerRestart, State.peer_reopeningBreak, if_pos rfl, State.peer_withRx, if_pos rfl]

theorem State.peerRestart_acts (s : State) (p : StationId) : Acts s (s.peerRestart p) :=
  ((Act.rx s p none (.inl rfl)).acts.then (.reopeningBreak _ p _)).trans (State.groupPeerEvent_acts _ p)

theorem State.rollInMember_deeds (s : State) (p : StationId) (groups : GroupSet) (flags : Byte) :
    Deeds s (s.rollInMember p groups flags) := by
  unfold State.rollInMember
  split
  · next hp =>
    split
    · exact .refl s
    · exact ((State.takeGroups_act (by simp [hp]) groups).acts.then (.raise _ _ _)).deeds
  · next hp =>
    split
    · refine (((State.peerRestart_acts s p).then (State.takeGroups_act ?_ groups)).then (.raise _ _ _)).deeds
      simp [State.presence_peerRestart, hp]
    · split
      · exact (Deed.peerAbsent s p _ hp).deeds.then (.raise _ _ _)
      · exact (State.takeGroups_act (by simp [hp]) groups).deeds
  · exact .refl s

/-- Timers and flags set after other acts, and the notice that follows them. -/
theorem Acts.flagsRaise {s t : State} (h : Acts s t) {mu : MembershipUnit} (hst : mu.station = t.mu.station)
    (hnum : mu.number = t.mu.number) (hrate : mu.rate = t.mu.rate) (kind : NoticeKind) (peer : Option StationId) :
    Acts s (({ t with mu := mu }).raise kind peer) := (h.then (.flags t mu hst hnum hrate)).then (.raise _ kind peer)

theorem State.rollExpiry_deeds (s : State) : Deeds s s.rollExpiry := by
  unfold State.rollExpiry
  exact (Act.flags s { s.mu with rollDue := true, rollTimer := some s.cfg.rollMillis } rfl rfl rfl).thenDeeds (Deed.age _).deeds

theorem State.joinDone_acts {s : State} (h : s.mu.station ≠ .member) : Acts s s.joinDone := by
  unfold State.joinDone
  refine Acts.flagsRaise (Act.become s .member h).acts ?_ ?_ ?_ _ _ <;> dsimp only

theorem State.enterJoining_acts {s : State} (h : s.mu.station ≠ .member) : Acts s s.enterJoining := by
  unfold State.enterJoining
  dsimp only
  generalize hu : s.become .joining = u
  have hjoining : Acts s u := hu ▸ (Act.become s .joining h).acts
  refine hjoining.trans (Act.thenActs (.flags u { u.mu with
    joinTimer := some (2 * s.cfg.rollMillis), rollTimer := none, leaveTimer := none, rollDue := false, joinedPending := false,
    leaveExpired := false, rollOnLine := .off } rfl rfl rfl) (Act.acts (.transmit _ { u.tu with failures := 0, deferred := false } ?_)))
  exact ⟨rfl, Iff.rfl, fun ⟨_, ha, hb⟩ => ⟨Nat.zero_le _, ha, hb⟩⟩

theorem State.leaveDone_acts {s : State} (h : s.mu.station ≠ .member) : Acts s s.leaveDone := by
  unfold State.leaveDone
  refine Acts.flagsRaise (Act.become s .detached h).acts ?_ ?_ ?_ _ _ <;> dsimp only

theorem State.leaveAtOnce_acts {s : State} (h : s.mu.station ≠ .member) : Acts s s.leaveAtOnce := by
  unfold State.leaveAtOnce
  refine Acts.flagsRaise ((Act.become s .detached h).acts.then (.clearPeers _ (by simp))) ?_ ?_ ?_ _ _ <;> dsimp only

theorem State.beginLeave_acts {s : State} (h : s.mu.station = .member) : Acts s s.beginLeave := by
  unfold State.beginLeave
  refine Acts.then (Act.teardown s .leaving .stationLeft h (by simp)).acts (Act.flags _ _ ?_ ?_ ?_) <;> dsimp only

theorem State.leaveExpiry_acts {s : State} (h : s.mu.station ≠ .member) : Acts s s.leaveExpiry := by
  unfold State.leaveExpiry
  split
  · exact State.leaveDone_acts h
  · exact Act.acts (.flags s _ rfl rfl rfl)

theorem State.rollResult_acts (s : State) (joined isSent : Bool) : Acts s (s.rollResult joined isSent) := by
  unfold State.rollResult
  split
  · exact .refl s
  · have hoff : Act s { s with mu := { s.mu with rollOnLine := .off } } := .flags s _ rfl rfl rfl
    dsimp only
    split
    · split
      · exact Act.acts (.flags s _ rfl rfl rfl)
      · exact hoff.acts
    · next hst =>
      split
      · exact hoff.thenActs (State.leaveDone_acts (by simp [hst]))
      · exact hoff.acts
    · exact hoff.acts

theorem State.eighthFailure_acts (s : State) : Acts s s.eighthFailure := by
  unfold State.eighthFailure
  split
  · next hst => exact (Act.teardown s .silenced .transmitFault hst (by simp)).acts.then (.raise _ _ _)
  · next hst =>
    split
    · exact State.leaveDone_acts (by simp [hst])
    · refine Acts.flagsRaise (Act.become s .silenced (by simp [hst])).acts ?_ ?_ ?_ _ _ <;> dsimp only
  · exact .refl s

theorem State.onClash_acts (s : State) : Acts s s.onClash := by
  unfold State.onClash
  split
  · next hst => exact (Act.teardown s .halted .clash hst (by simp)).acts.then (.raise _ _ _)
  · next hst =>
    refine Acts.flagsRaise ((Act.become s .halted (by simp [hst])).acts.then (.clearPeers _ (by simp))) ?_ ?_ ?_ _ _ <;> dsimp only
  · exact .refl s

/-! ### Frames -/

theorem State.filterDest_deeds {s : State} (h : s.mu.station = .member) (m : Msg) : Deeds s (s.filterDest m) := by
  unfold State.filterDest
  split
  · split
    · exact (State.receiveData_acts h _ _ _).deeds
    · exact .refl s
  · split
    · exact (State.receiveOpen_acts h _).deeds
    · exact .refl s
  · split
    · exact (s.dataAnswer_acts _ _ _).deeds
    · exact .refl s
  · split
    · exact (s.openAnswer_acts _ _ _).deeds
    · exact .refl s
  · split
    · exact (s.groupAnswer_acts _ _ _).deeds
    · exact .refl s
  · split
    · exact (State.receiveGroup_acts h _ _ _ _).deeds
    · exact .refl s
  · exact s.rollInMember_deeds _ _ _

theorem State.dispatchMember_deeds {s : State} (h : s.mu.station = .member) (m : Msg) : Deeds s (s.dispatchMember m) :=
  ((s.liveness_acts m.src).trans (State.clearDeferral_acts _ m)).deeds.trans (State.filterDest_deeds (by simpa using h) m)

theorem State.dispatchJoining_acts {s : State} (h : s.mu.station = .joining) (m : Msg) : Acts s (s.dispatchJoining m) := by
  unfold State.dispatchJoining
  split
  · exact (s.liveness_acts _).trans (State.rollInJoining_acts (by simpa using h) _ _ _)
  · exact .refl s

theorem State.useFrame_deeds (s : State) (m : Msg) : Deeds s (s.useFrame m) := by
  unfold State.useFrame
  split
  · exact s.onClash_acts.deeds
  · split
    · next hst => exact (State.dispatchJoining_acts hst m).deeds
    · next hst => exact State.dispatchMember_deeds hst m
    · exact .refl s

theorem State.frameCloses_deeds (s : State) (m : Msg) : Deeds s (s.frameCloses m) := by
  have hmark : Deeds s s.atClosingMark :=
    (Act.line s .atMark (.inr (.inr rfl))).deeds.then (.frame _ s.pending s.inReset s.port .seeking s.reply)
  unfold State.frameCloses
  split
  · exact .refl s
  · split
    · exact hmark.trans (State.useFrame_deeds _ m)
    · exact hmark

/-! ### Attempts -/

/-- A transmitter that stops, and the result at the owner of the frame in its buffer (R56). -/
theorem State.stop_tell_acts {s : State} {u : TransmitUnit} (hu : s.tu.stops u) (b : Bool) :
    Acts s (({ s with tu := u }).tellBuffer s.tu.buffer b) := by
  have hstop (h : s.tu.buffer.map (·.owner) ≠ some .answer) : Act s { s with tu := u } := .stop s u hu h
  cases hbuf : s.tu.buffer with
  | none => exact Act.acts (hstop (by simp [hbuf]))
  | some x =>
    show Acts s (({ s with tu := u } : State).tellOwner x.owner b)
    unfold State.tellOwner
    split
    · next hx => exact (Act.stopAnswer s u b hu (by simp [hbuf, hx])).acts
    · next hx => exact (hstop (by simp [hbuf, hx])).thenActs (State.rollResult_acts _ _ b)
    · next hx => exact (hstop (by simp [hbuf, hx])).thenActs (State.openResult_acts _ _ b)
    · next hx => exact (hstop (by simp [hbuf, hx])).thenActs (State.windowResult_acts _ _ _ b)
    · next hx =>
      split
      · exact (hstop (by simp [hbuf, hx])).thenActs (State.laneSent_acts _ _ _)
      · exact (hstop (by simp [hbuf, hx])).acts

theorem State.attemptLost_acts (s : State) : Acts s s.attemptLost := State.stop_tell_acts s.tu.stops_toWait false

theorem State.attemptSent_acts (s : State) : Acts s s.attemptSent := State.stop_tell_acts s.tu.stops_afterSent true

theorem State.attemptFailed_acts (s : State) : Acts s s.attemptFailed := by
  have htell := State.stop_tell_acts s.tu.stops_afterFailed false
  unfold State.attemptFailed
  dsimp only
  split
  · exact htell.trans (State.eighthFailure_acts _)
  · exact htell

theorem State.onReadback_acts (s : State) (b : Level) : Acts s (s.onReadback b) := by
  have hbusy : s.tu.readback b ≠ .idle → s.tu.state ≠ .wait := fun h hw => h (by simp [TransmitUnit.readback, hw])
  unfold State.onReadback
  split
  · exact .refl s
  · next hr => exact Act.acts (.transmit s _ (TransmitUnit.goesOn_moveOn (hbusy (by simp [hr]))))
  · exact s.attemptSent_acts
  · exact s.attemptLost_acts
  · next hr => exact Act.acts (.transmit s _ (TransmitUnit.goesOn_breakoff (hbusy (by simp [hr]))))
  · exact Act.acts (.transmit s _ s.tu.goesOn_breaking)

theorem State.tuHeld_acts (s : State) : Acts s s.tuHeld := by
  unfold State.tuHeld
  split
  · exact .refl s
  · exact s.attemptFailed_acts

/-! ### The start of an attempt -/

theorem State.answerOffer_owner {s : State} {o : Offer} (h : s.answerOffer = some o) : o.owner = .answer := by
  simp only [State.answerOffer, Option.map_eq_some_iff] at h
  obtain ⟨e, -, rfl⟩ := h
  rfl

theorem State.rollOffer_owner {s : State} {o : Offer} (h : s.rollOffer = some o) : o.owner = .roll s.mu.joinedPending := by
  unfold State.rollOffer at h
  split at h
  · cases h
    rfl
  · cases h

theorem State.openOffer_owner {s : State} {o : Offer} (h : s.openOffer = some o) : ∃ p, o.owner = .openReq p := by
  simp only [State.openOffer, Option.map_eq_some_iff] at h
  obtain ⟨p, -, rfl⟩ := h
  exact ⟨p, rfl⟩

/-- What a session offers: one of its window entries, or the head of its waiting list for a window with room (R109). -/
theorem State.sessionOffer_spec {s : State} {p : StationId} {o : Offer} (h : s.sessionOffer p = some o) :
    ∃ x q, s.tx p = some x ∧ x.state = .opened ∧ o.owner = .window p q ∧
      (o.entering = true → x.window.length < s.cfg.window) := by
  have hdata : ∀ {k q entering}, s.dataOffer p k q entering = some o → o.owner = .window p q ∧ o.entering = entering := by
    intro k q entering h
    simp only [State.dataOffer, Option.map_eq_some_iff] at h
    obtain ⟨c, -, rfl⟩ := h
    exact ⟨rfl, rfl⟩
  unfold State.sessionOffer at h
  split at h
  · cases h
  · next x hx =>
    split at h
    · cases h
    · next hopen =>
      obtain ⟨hst, -⟩ := not_or.mp hopen
      have hst : x.state = .opened := by cases hs : x.state <;> simp_all
      split at h
      · next q _ =>
        split at h
        · obtain ⟨ho, he⟩ := hdata h
          exact ⟨x, q, hx, hst, ho, by simp [he]⟩
        · cases h
      · split at h
        · next hroom =>
          split at h
          · obtain ⟨ho, -⟩ := hdata h
            exact ⟨x, _, hx, hst, ho, fun _ => hroom⟩
          · cases h
        · cases h

theorem State.laneOffer_owner {s : State} {o : Offer} (h : s.laneOffer = some o) : ∃ k q, o.owner = .lane k q := by
  unfold State.laneOffer at h
  split at h
  · cases h
  · split at h
    · simp only [Option.map_eq_some_iff] at h
      obtain ⟨c, -, rfl⟩ := h
      exact ⟨_, _, rfl⟩
    · cases h

theorem State.dataChoice_mem {s : State} {o : Offer} (h : s.dataChoice = some o) : ∃ i, s.offerAt i = some o := by
  have hmem : o ∈ (positionsFrom s.tu.pointer).filterMap s.offerAt := by
    unfold State.dataChoice at h
    dsimp only at h
    split at h
    · next o' ho =>
      cases h
      exact List.mem_of_find?_eq_some ho
    · exact List.mem_of_head? h
  obtain ⟨i, -, hi⟩ := List.mem_filterMap.mp hmem
  exact ⟨i, hi⟩

/-- The head of a waiting list enters the window (R109). It changes no field but slots, peers. -/
@[simp] theorem State.enterWindow_keeps (s : State) (p : StationId) :
    (s.enterWindow p).lm = s.lm ∧ (s.enterWindow p).tu = s.tu ∧ (s.enterWindow p).mu = s.mu ∧
    (s.enterWindow p).delivered = s.delivered ∧ (s.enterWindow p).ticket = s.ticket ∧ (s.enterWindow p).answers = s.answers ∧
    (s.enterWindow p).gu = s.gu ∧ (s.enterWindow p).cfg = s.cfg ∧ (s.enterWindow p).report = s.report := by
  unfold State.enterWindow
  split
  · simp
  · split <;> simp

/-- What putting a chosen candidate on the line does: the record of its owner's item, or nothing (Table 3-5). -/
theorem State.startAttempt_acts {s : State} (hwait : s.tu.state = .wait) {o : Offer} (h : s.choice = some o) :
    Acts s (s.startAttempt o) := by
  have hbegin : ∀ u : State, (u.mu.station = .member ∨ u.mu.station = .leaving) → u.tu = s.tu → o.owner ≠ .answer →
      Act u { u with tu := u.tu.begin o } := fun u hst htu ho => .begin u o (by rw [htu, hwait]) hst ho
  have hroll : ∀ j, o.owner = .roll j → (s.mu.station = .member ∨ s.mu.station = .leaving) → Acts s (s.startAttempt o) := by
    intro j ho hst
    unfold State.startAttempt State.putOnLine
    simp only [ho]
    exact (Act.flags s { s.mu with rollOnLine := if s.mu.station = .leaving then .part else .ordinary } rfl rfl rfl).acts.then
      (hbegin _ hst rfl (by simp [ho]))
  unfold State.choice at h
  split at h
  · next hst => exact hroll _ (State.rollOffer_owner h) (.inr hst)
  · next hst =>
    split at h
    · next o' ho' =>
      cases h
      have ho := State.answerOffer_owner ho'
      unfold State.startAttempt State.putOnLine
      simp only [ho]
      exact Act.acts (.beginAnswer s o hwait hst ho)
    · split at h
      · next o' ho' =>
        cases h
        exact hroll _ (State.rollOffer_owner ho') (.inl hst)
      · split at h
        · next o' ho' =>
          cases h
          obtain ⟨p, ho⟩ := State.openOffer_owner ho'
          unfold State.startAttempt State.putOnLine
          simp only [ho]
          split
          · next x hx =>
            exact (Act.session s p x { x with openOnLine := true, answerTimer := none } hx ⟨rfl, rfl, rfl, rfl, id, id⟩).acts.then
              (hbegin _ (.inl hst) rfl (by simp [ho]))
          · exact Act.acts (hbegin s (.inl hst) rfl (by simp [ho]))
        · split at h
          · cases h
          · obtain ⟨i, hi⟩ := State.dataChoice_mem h
            unfold State.offerAt at hi
            split at hi
            · obtain ⟨x, q, hx, hopen, ho, hroom⟩ := State.sessionOffer_spec hi
              unfold State.startAttempt State.putOnLine
              simp only [ho]
              split
              · next hent =>
                exact (Act.enterWindow s _ x hx hopen (hroom hent)).acts.then
                  (hbegin _ (.inl (by simp [hst])) (by simp) (by simp [ho]))
              · exact Act.acts (hbegin s (.inl hst) rfl (by simp [ho]))
            · obtain ⟨k, q, ho⟩ := State.laneOffer_owner hi
              unfold State.startAttempt State.putOnLine
              simp only [ho]
              exact Act.acts (hbegin s (.inl hst) rfl (by simp [ho]))
  · cases h

theorem State.atStartPoint_acts (s : State) : Acts s s.atStartPoint := by
  unfold State.atStartPoint
  split
  · next hwait =>
    split
    · next o ho => exact State.startAttempt_acts hwait ho
    · exact .refl s
  · exact .refl s

/-! ### Bits and samples -/

theorem State.nextBit_acts (s : State) : Acts s s.nextBit :=
  (Act.line s { s.lm with sampled := false } (.inr (.inl ⟨false, rfl⟩))).acts.then
    (.transmit _ { s.tu with lout := s.tu.nextLevel } (s.tu.goesOn_flags s.tu.deferred s.tu.pointer s.tu.nextLevel))

theorem State.boundary_acts (s : State) : Acts s s.boundary := by
  unfold State.boundary
  split
  · exact s.nextBit_acts.trans (State.attemptFailed_acts _)
  · split
    · exact s.nextBit_acts.trans (State.atStartPoint_acts _)
    · exact s.nextBit_acts

theorem State.atBit_acts (s : State) : Acts s s.atBit := by
  unfold State.atBit
  split
  · exact s.boundary_acts
  · exact .refl s

theorem State.lineEvents_acts (s : State) (lm : LineMonitor) (b : Level) : Acts s (s.lineEvents lm b) := by
  have hlong : Acts s (if lm.longQuietOn b then { s with tu := { s.tu with deferred := false } } else s) := by
    split
    · exact (Act.transmit s { s.tu with deferred := false } (s.tu.goesOn_flags false s.tu.pointer s.tu.lout)).acts
    · exact .refl s
  unfold State.lineEvents
  dsimp only
  generalize (if lm.longQuietOn b then _ else s) = u at hlong ⊢
  split
  · exact hlong
  · split
    · exact hlong.then (.raise _ _ _)
    · split
      · exact hlong.then (.raise _ _ _)
      · exact hlong

theorem State.onClosed_deeds (s : State) (own due : Bool) (crc : BitVec 16) (content : List Bool) :
    Deeds s (s.onClosed own due crc content) := by
  unfold State.onClosed
  split
  · exact .refl s
  · split
    · exact .refl s
    · exact s.useFrame_deeds _

theorem State.receive_deeds (s : State) (own : Bool) (b : Level) (r : Option RunReport) : Deeds s (s.receive own b r) := by
  have hfr : Deeds s { s with fr := (s.fr.sample b r).1 } :=
    (Act.frame s s.pending s.inReset s.port (s.fr.sample b r).1 s.reply).deeds
  unfold State.receive
  dsimp only
  split
  · exact hfr.trans (State.onClosed_deeds _ _ _ _ _)
  · exact hfr

theorem State.onHeld_acts (s : State) : Acts s s.onHeld :=
  (Act.frame s s.pending s.inReset s.port s.fr.onHeld s.reply).thenActs (State.tuHeld_acts _)

theorem State.takeSample_deeds (s : State) (b : Level) : Deeds s (s.takeSample b) := by
  unfold State.takeSample
  dsimp only
  generalize hu : s.lineEvents s.lm b = u
  have hline : Acts s { u with lm := s.lm.afterSample b } :=
    (hu ▸ s.lineEvents_acts s.lm b : Acts s u).then (.line u _ (.inl ⟨b, by rw [← hu]; simp⟩))
  refine Deeds.trans (hline.trans (State.onReadback_acts _ b)).deeds (Deeds.trans ?_ (State.receive_deeds _ _ _ _))
  split
  · exact (State.onHeld_acts _).deeds
  · exact .refl _

theorem State.sample_deeds (s : State) (b : Level) : Deeds s (s.sample b) := by
  unfold State.sample
  split
  · exact .refl s
  · exact s.atBit_acts.deeds.trans (State.takeSample_deeds _ b)

theorem State.sampleIf_deeds (s : State) (due : State → Bool) (b : Level) : Deeds s (s.sampleIf due b) := by
  unfold State.sampleIf
  split
  · exact s.atBit_acts.deeds.trans (State.takeSample_deeds _ b)
  · exact .refl s

/-! ### The Host Port -/

theorem State.execute_acts {s : State} {command : State → State} (h : ∀ u : State, Acts u (command u)) :
    Acts s (s.execute command) := by
  unfold State.execute
  split
  · exact s.csnHigh_act.thenActs (h _)
  · exact s.csnHigh_act.acts

theorem State.reply_acts (s : State) (tag code : Byte) (r : Result) (d : List Byte) : Acts s (s.replyWith tag code r d) :=
  (s.replyWith_act tag code r d).acts

theorem Acts.replied {s t : State} (h : Acts s t) (tag code : Byte) (r : Result) (d : List Byte) :
    Acts s (t.replyWith tag code r d) := h.then (t.replyWith_act tag code r d)

theorem State.outboundSlot_free {s : State} {k : SlotId} (h : s.outboundSlot = some k) : s.freeSlot = some k := by
  unfold State.outboundSlot at h
  split at h
  · exact h
  · cases h

theorem State.post_acts (s : State) (tag dest priority : Byte) (payload : List Byte) :
    Acts s (s.post tag dest priority payload) := by
  unfold State.post
  split
  · exact s.reply_acts _ _ _ _
  · next hst =>
    have hst : s.mu.station = .member := Classical.not_not.mp hst
    split
    · exact s.reply_acts _ _ _ _
    · split
      · exact s.reply_acts _ _ _ _
      · split
        · exact s.reply_acts _ _ _ _
        · next d _ =>
          split
          · exact s.reply_acts _ _ _ _
          · unfold State.postTo
            split
            · exact s.reply_acts _ _ _ _
            · next hpeer =>
              split
              · exact s.reply_acts _ _ _ _
              · next k hk =>
                cases d with
                | station p =>
                  have hp : (s.peer p).presence = .present := by simpa [State.noPeer, State.isPresent] using hpeer
                  exact (Act.postDirect s k p _ payload hk hst hp).acts.replied _ _ _ _
                | group g => exact (Act.postGroup s k g _ payload hk hst).acts.replied _ _ _ _

theorem State.cancelTicket_acts (s : State) (tag : Byte) (ticket : Ticket) : Acts s (s.cancelTicket tag ticket) := by
  unfold State.cancelTicket
  split
  · next k _ => exact (Act.withdraw s k).acts.replied _ _ _ _
  · split <;> exact s.reply_acts _ _ _ _

/-- The command that CONFIGURE's bytes run (R169). -/
theorem execConfigure_acts {s t : State} {tag a b c d e : Byte} (h : execConfigure tag a b c d e s = .next t) : Acts s t := by
  cases h
  refine State.execute_acts fun u => ?_
  split
  · next hst =>
    split
    · next cfg hc => exact (Act.configure u cfg a b c d e hst hc).acts.replied _ _ _ _
    · exact u.reply_acts _ _ _ _
  · exact u.reply_acts _ _ _ _

theorem execJoin_acts {s t : State} {tag : Byte} (h : execJoin tag s = .next t) : Acts s t := by
  cases h
  refine State.execute_acts fun u => ?_
  split
  · next hst => exact (State.enterJoining_acts (by simp [hst])).replied _ _ _ _
  · exact u.reply_acts _ _ _ _

theorem execResume_acts {s t : State} {tag : Byte} (h : execResume tag s = .next t) : Acts s t := by
  cases h
  refine State.execute_acts fun u => ?_
  split
  · next hst => exact (State.enterJoining_acts (by simp [hst])).replied _ _ _ _
  · exact u.reply_acts _ _ _ _

theorem execLeave_acts {s t : State} {tag : Byte} (h : execLeave tag s = .next t) : Acts s t := by
  cases h
  refine State.execute_acts fun u => ?_
  split
  · next hst => exact (State.beginLeave_acts hst).replied _ _ _ _
  · next hst => exact (State.leaveAtOnce_acts (by simp [hst])).replied _ _ _ _
  · next hst => exact (State.leaveAtOnce_acts (by simp [hst])).replied _ _ _ _
  · exact u.reply_acts _ _ _ _

theorem execPeer_acts {s t : State} {tag number : Byte} (h : execPeer tag number s = .next t) : Acts s t := by
  cases h
  refine State.execute_acts fun u => ?_
  split <;> exact u.reply_acts _ _ _ _

theorem execBadCommand_acts {s t : State} {tag code : Byte} {args : List Byte} (h : execBadCommand tag code args s = .next t) :
    Acts s t := by
  cases h
  split
  · exact s.csnHigh_act.acts
  · split
    · exact .refl s
    · exact State.execute_acts fun u => u.reply_acts _ _ _ _

theorem execPost_acts {s t : State} {tag dest priority : Byte} {payload : List Byte}
    (h : execPost tag dest priority payload s = .next t) : Acts s t := by
  cases h
  split
  · exact s.csnHigh_act.acts
  · exact State.execute_acts fun u => u.post_acts _ _ _ _

theorem execCsnFall_acts {s t : State} (h : execCsnFall s = .next t) : Acts s t := by
  cases h
  split
  · exact (Act.frame s s.pending s.inReset _ s.fr s.reply).acts
  · exact .refl s

theorem execIncompleteTransaction_acts {s t : State} {bytes : List Byte} (h : execIncompleteTransaction bytes s = .next t) :
    Acts s t := by
  cases h
  split
  · exact .refl s
  · exact s.csnHigh_act.acts

/-! ### Boundaries and timers -/

theorem execStartPoint_acts {s t : State} (h : execStartPoint s = .next t) : Acts s t := by
  cases h
  split
  · exact s.boundary_acts
  · exact .refl s

theorem execBreakoffEnd_acts {s t : State} (h : execBreakoffEnd s = .next t) : Acts s t := by
  cases h
  split
  · exact s.boundary_acts
  · exact .refl s

theorem execResynchronisation_deeds {s t : State} {clocks : Nat} (h : execResynchronisation clocks s = .next t) :
    Deeds s t := by
  cases h
  split
  · exact .refl s
  · split
    · exact s.atBit_acts.deeds
    · split
      · unfold State.endBitAtEdge
        split
        · exact s.boundary_acts.deeds
        · exact (s.takeSample_deeds _).trans (State.boundary_acts _).deeds
      · exact .refl s

theorem execJoinTimerExpiry_acts {s t : State} (h : execJoinTimerExpiry s = .next t) : Acts s t := by
  cases h
  split
  · next hst => exact State.joinDone_acts (by simp [hst.1])
  · exact .refl s

theorem execRollTimerExpiry_deeds {s t : State} (h : execRollTimerExpiry s = .next t) : Deeds s t := by
  cases h
  split
  · exact s.rollExpiry_deeds
  · exact .refl s

theorem execLeaveTimerExpiry_acts {s t : State} (h : execLeaveTimerExpiry s = .next t) : Acts s t := by
  cases h
  split
  · next hst => exact State.leaveExpiry_acts (by simp [hst.1])
  · exact .refl s

theorem execOpenAnswerTimerExpiry_acts {s t : State} {p : StationId} (h : execOpenAnswerTimerExpiry p s = .next t) :
    Acts s t := by
  cases h
  split
  · next x hx =>
    split
    · unfold State.openTimerExpiry
      dsimp only
      split
      · exact Act.acts (.session s p x _ hx ⟨rfl, rfl, rfl, rfl, id, id⟩)
      · refine State.retryStep_acts hx ?_ ?_ _ ?_
        · exact ⟨rfl, rfl, rfl, rfl, id, id⟩
        · exact fun z => ⟨rfl, rfl, rfl, rfl, id, id⟩
        · rfl
    · exact .refl s
  · exact .refl s

theorem execAnswerTimerExpiry_acts {s t : State} {p : StationId} (h : execAnswerTimerExpiry p s = .next t) : Acts s t := by
  cases h
  split
  · next x hx =>
    split
    · unfold State.dataTimerExpiry
      refine State.retryStep_acts hx ?_ ?_ _ ?_
      · exact ⟨rfl, rfl, rfl, rfl, id, id⟩
      · exact fun z => ⟨rfl, rfl, rfl, rfl, id, id⟩
      · rfl
    · exact .refl s
  · exact .refl s

theorem execHoldTimerExpiry_acts {s t : State} {p : StationId} (h : execHoldTimerExpiry p s = .next t) : Acts s t := by
  cases h
  split
  · next x hx =>
    split
    · exact Act.acts (.session s p x _ hx ⟨rfl, rfl, rfl, rfl, id, id⟩)
    · exact .refl s
  · exact .refl s

theorem execLaneAnswerTimerExpiry_acts {s t : State} (h : execLaneAnswerTimerExpiry s = .next t) : Acts s t := by
  cases h
  split
  · next l hl =>
    split
    · exact State.laneRetry_acts hl
    · exact .refl s
  · exact .refl s

/-! ### Every row -/

/-- Every row but FETCH, REPORT and the resets is a row of deeds. -/
theorem exec_deeds {c : Instr} {s t : State} (hreset : isResetRow c = false) (hfetch : ∀ tag, c ≠ .fetch tag)
    (hreport : ∀ tag, c ≠ .report tag) (h : exec c s = .next t) : Deeds s t := by
  cases c with
  | hardwareReset | hardwareResetEnd _ _ | restart _ _ _ => cases hreset
  | fetch tag => exact absurd rfl (hfetch tag)
  | report tag => exact absurd rfl (hreport tag)
  | incompleteTransaction _ => exact (execIncompleteTransaction_acts h).deeds
  | badCommand _ _ _ => exact (execBadCommand_acts h).deeds
  | nop _ | status _ =>
    cases h
    exact (State.execute_acts fun u => u.reply_acts _ _ _ _).deeds
  | peer _ _ => exact (execPeer_acts h).deeds
  | configure _ _ _ _ _ _ => exact (execConfigure_acts h).deeds
  | join _ => exact (execJoin_acts h).deeds
  | leave _ => exact (execLeave_acts h).deeds
  | resume _ => exact (execResume_acts h).deeds
  | post _ _ _ _ => exact (execPost_acts h).deeds
  | cancel _ _ =>
    cases h
    exact (State.execute_acts fun u => u.cancelTicket_acts _ _).deeds
  | startPoint => exact (execStartPoint_acts h).deeds
  | breakoffEnd => exact (execBreakoffEnd_acts h).deeds
  | lineQuiet | lostContention | mismatch | sent | lineHeld | lineReleased | longQuiet | frameViolation _ | openingMark
  | frameClose =>
    cases h
    exact s.sampleIf_deeds _ _
  | lineSample _ =>
    cases h
    exact s.sample_deeds _
  | clash _ | roll _ _ _ _ | openFrame _ _ _ | data _ _ _ _ _ | group _ _ _ _ _ | answerData _ _ _ _ | answerOpen _ _ _ _
  | answerGroup _ _ _ _ =>
    cases h
    exact s.frameCloses_deeds _
  | joinTimerExpiry => exact (execJoinTimerExpiry_acts h).deeds
  | rollTimerExpiry => exact execRollTimerExpiry_deeds h
  | leaveTimerExpiry => exact (execLeaveTimerExpiry_acts h).deeds
  | openAnswerTimerExpiry _ => exact (execOpenAnswerTimerExpiry_acts h).deeds
  | answerTimerExpiry _ => exact (execAnswerTimerExpiry_acts h).deeds
  | holdTimerExpiry _ => exact (execHoldTimerExpiry_acts h).deeds
  | laneAnswerTimerExpiry => exact (execLaneAnswerTimerExpiry_acts h).deeds
  | resynchronisation _ => exact execResynchronisation_deeds h
  | csnFall => exact (execCsnFall_acts h).deeds

/-- FETCH and REPORT: one entry leaves its list, with its slot if it has one, and the reply follows (R93, R94). -/
inductive TakesEntry : State → State → Prop
  | none (s : State) : TakesEntry s s
  | fetch (s : State) (k : SlotId) (rest : List SlotId) (p : StationId) (origin : Origin) (payload : List Byte) :
      s.delivered = k :: rest → s.slot k = .delivered p origin payload →
      TakesEntry s { s.withSlot k .free with delivered := rest }
  | notice (s : State) (kind : NoticeKind) (peer : Option StationId) (missed : Bool) (rest : List ReportEntry) :
      s.report = .notice kind peer missed :: rest → TakesEntry s { s with report := rest }
  | outcome (s : State) (k : SlotId) (rest : List ReportEntry) (c : Parcel) (o : ParcelOutcome) :
      s.report = .outcome k :: rest → s.slot k = .done c o → TakesEntry s { s.withSlot k .free with report := rest }

theorem State.fetchHead_takes (s : State) (tag : Byte) : ∃ u, TakesEntry s u ∧ Acts u (s.fetchHead tag) := by
  unfold State.fetchHead
  split
  · exact ⟨s, .none s, s.reply_acts _ _ _ _⟩
  · next k rest hd =>
    split
    · next p origin payload hk => exact ⟨_, .fetch s k rest p origin payload hd hk, State.reply_acts _ _ _ _ _⟩
    · exact ⟨s, .none s, s.reply_acts _ _ _ _⟩

theorem State.reportHead_takes (s : State) (tag : Byte) : ∃ u, TakesEntry s u ∧ Acts u (s.reportHead tag) := by
  unfold State.reportHead
  split
  · exact ⟨s, .none s, s.reply_acts _ _ _ _⟩
  · next kind peer missed rest hr => exact ⟨_, .notice s kind peer missed rest hr, State.reply_acts _ _ _ _ _⟩
  · next k rest hr =>
    split
    · next c o hk => exact ⟨_, .outcome s k rest c o hr hk, State.reply_acts _ _ _ _ _⟩
    · exact ⟨s, .none s, s.reply_acts _ _ _ _⟩

/-- A command of a transaction that takes an entry, if the port takes the transaction (R163). -/
theorem State.execute_takes {s : State} {command : State → State} (h : ∀ u : State, ∃ v, TakesEntry u v ∧ Acts v (command u)) :
    ∃ v, TakesEntry s.csnHigh v ∧ Acts v (s.execute command) := by
  unfold State.execute
  split
  · exact h _
  · exact ⟨_, .none _, .refl _⟩

/-- What a step can do: deeds of the units, an entry of a list taken and a reply, or a reset. -/
theorem exec_cases {c : Instr} {s t : State} (h : exec c s = .next t) :
    Deeds s t ∨ (∃ u, TakesEntry s.csnHigh u ∧ Acts u t) ∨
    ∃ cfg reply port low addr rate, t = .blocksReset cfg reply port low addr rate s.pending ∧ (cfg = s.cfg ∨ cfg = .default) := by
  by_cases hreset : isResetRow c = true
  · cases c with
    | hardwareReset | hardwareResetEnd _ _ =>
      cases h
      exact .inr (.inr ⟨_, _, _, _, _, _, rfl, .inr rfl⟩)
    | restart tag addr rate =>
      cases h
      unfold State.execute
      split
      · exact .inr (.inr ⟨_, _, _, _, _, _, rfl, .inl rfl⟩)
      · exact .inl s.csnHigh_act.deeds
    | _ => cases hreset
  · by_cases hfetch : ∃ tag, c = .fetch tag
    · obtain ⟨tag, rfl⟩ := hfetch
      cases h
      exact .inr (.inl (State.execute_takes fun u => u.fetchHead_takes tag))
    · by_cases hreport : ∃ tag, c = .report tag
      · obtain ⟨tag, rfl⟩ := hreport
        cases h
        exact .inr (.inl (State.execute_takes fun u => u.reportHead_takes tag))
      · exact .inl (exec_deeds (Bool.eq_false_iff.mpr hreset) (fun tag hc => hfetch ⟨tag, hc⟩) (fun tag hc => hreport ⟨tag, hc⟩) h)

/-- What a step can do, the queue's front taken or not: what every deed, every taken entry and every reset keeps, a step keeps. -/
theorem step_keeps {I : State → Prop} (hdeed : ∀ {s t}, Deed s t → I s → I t) (htake : ∀ {s t}, TakesEntry s t → I s → I t)
    {s t : State} (hresets : ∀ cfg reply port low addr rate pending, (cfg = s.cfg ∨ cfg = .default) →
      I (.blocksReset cfg reply port low addr rate pending)) (h : step s = .next t) (hs : I s) : I t := by
  unfold step at h
  split at h
  · cases h
    exact hs
  · next c rest hp =>
    have hq : I { s with pending := rest } := hdeed (.act (.frame s rest s.inReset s.port s.fr s.reply)) hs
    rcases exec_cases h with hacts | ⟨u, hu, hacts⟩ | ⟨cfg, reply, port, low, addr, rate, rfl, hcfg⟩
    · exact hacts.keep hdeed hq
    · exact hacts.deeds.keep hdeed (htake hu (hdeed (.act (State.csnHigh_act _)) hq))
    · exact hresets _ _ _ _ _ _ _ hcfg

end Sys2Proof.Machine
end

section
/-!
PROOFS. O49, O51 and O52, the invariants of the line, of the peer table and of the work for the line: each is kept by every act.
-/
namespace Sys2Proof.Machine

open Sys2Proof Sys2Proof.Safety

/-! ### Peer entries after the operations -/

/-- A fold over stations whose step for `p` changes what stands at `p` alone, and by what stands there. -/
theorem foldl_pointwise {α : Type} {get : State → StationId → α} {f : State → StationId → State} {g : α → α}
    (h : ∀ s p q, get (f s p) q = if q = p then g (get s p) else get s q) {l : List StationId} (hl : l.Nodup) (s : State)
    (q : StationId) : get (l.foldl f s) q = if q ∈ l then g (get s q) else get s q := by
  induction l generalizing s with
  | nil => simp
  | cons p l ih =>
    obtain ⟨hp, hl⟩ := List.nodup_cons.mp hl
    rw [List.foldl_cons, ih hl, h]
    by_cases hq : q = p
    · subst hq
      simp [hp]
    · simp [hq]

theorem allStations_nodup : allStations.Nodup := List.nodup_finRange 32

theorem mem_allStations (p : StationId) : p ∈ allStations := List.mem_finRange p

theorem foldl_allStations {α : Type} {get : State → StationId → α} {f : State → StationId → State} {g : α → α}
    (h : ∀ s p q, get (f s p) q = if q = p then g (get s p) else get s q) (s : State) (q : StationId) :
    get (allStations.foldl f s) q = g (get s q) := by
  rw [foldl_pointwise h allStations_nodup, if_pos (mem_allStations q)]

theorem State.peers_ext {s t : State} (h : ∀ q, t.peer q = s.peer q) : t.peers = s.peers := by
  refine Vector.ext fun i hi => ?_
  exact h ⟨i, hi⟩

theorem State.peer_ageOne (s : State) (p q : StationId) :
    (s.ageOne p).peer q =
      if q = p then (if (s.peer p).presence = .present then { s.peer p with silence := (s.peer p).silence + 1 } else s.peer p)
      else s.peer q := by
  unfold State.ageOne State.isPresent
  by_cases hp : (s.peer p).presence = .present
  · simp [hp, State.peer_withPeer]
  · by_cases hq : q = p <;> simp [hp, hq]

theorem State.peer_groupPeerEvent (s : State) (p q : StationId) :
    (s.groupPeerEvent p).peer q = if q = p then { s.peer p with lastGroup := none } else s.peer q := by
  rw [State.groupPeerEvent, State.peer_congr (s := s.withLastGroup p none) (by simp), State.peer_withLastGroup]

/-- The peer-absent event leaves the empty entry of an ABSENT station (R74). -/
theorem State.peer_peerAbsent (s : State) (p q : StationId) (cause : Cause) :
    (s.peerAbsent p cause).peer q = if q = p then PeerEntry.empty .absent else s.peer q := by
  rw [State.peerAbsent, State.peer_groupPeerEvent, State.sessionPeerAbsent, State.peer_terminalBreak,
    State.peer_terminalBreak, State.peer_withRx, State.peer_withRx, State.peer_withPresence, State.peer_withPresence]
  by_cases hq : q = p <;> simp [hq, PeerEntry.empty]

theorem State.peer_loseOne (s : State) (p q : StationId) :
    (s.loseOne p).peer q =
      if q = p then
        (if (s.peer p).presence = .present ∧ 3 ≤ (s.peer p).silence then PeerEntry.empty .absent else s.peer p)
      else s.peer q := by
  unfold State.loseOne State.isPresent Config.silenceLimit
  by_cases hp : (s.peer p).presence = .present ∧ 3 ≤ (s.peer p).silence
  · simp [hp, State.peer_peerAbsent]
  · by_cases hq : q = p <;> simp [hp, hq]

/-- An entry after ageing: one more interval of silence for a PRESENT one, and ABSENT and empty at the third (R68). -/
theorem State.peer_age (s : State) (q : StationId) :
    s.age.peer q =
      if (s.peer q).presence = .present then
        (if 2 ≤ (s.peer q).silence then PeerEntry.empty .absent else { s.peer q with silence := (s.peer q).silence + 1 })
      else s.peer q := by
  unfold State.age
  rw [foldl_allStations (get := State.peer) (g := fun e => if e.presence = .present ∧ 3 ≤ e.silence then PeerEntry.empty .absent else e)
      fun s p q => s.peer_loseOne p q,
    foldl_allStations (get := State.peer) (g := fun e => if e.presence = .present then { e with silence := e.silence + 1 } else e)
      fun s p q => s.peer_ageOne p q]
  by_cases hp : (s.peer q).presence = .present <;> simp [hp]

theorem State.peer_clearPeers (s : State) (q : StationId) :
    s.clearPeers.peer q =
      if (s.peer q).presence = .self then s.peer q else { s.peer q with presence := .absent, groups := 0, silence := 0 } := by
  unfold State.clearPeers
  refine foldl_allStations (get := State.peer)
    (g := fun e => if e.presence = .self then e else { e with presence := .absent, groups := 0, silence := 0 }) ?_ s q
  intro s p q
  by_cases hp : (s.peer p).presence = .self
  · by_cases hq : q = p <;> simp [hp, hq]
  · simp [hp, State.peer_withPresence]

theorem State.peer_sessionTeardown (s : State) (cause : Cause) (q : StationId) :
    (s.sessionTeardown cause).peer q = { s.peer q with tx := none, rx := none } := by
  have hrx := foldl_allStations (get := State.peer) (f := fun s p => s.withRx p none) (g := fun e => { e with rx := none })
    fun s p q => s.peer_withRx p q none
  have htx := foldl_allStations (get := State.peer) (f := fun s p => s.terminalBreak p cause)
    (g := fun e => { e with tx := none }) fun s p q => s.peer_terminalBreak p q cause
  have hboth := (hrx _ q).trans (congrArg (fun e : PeerEntry => { e with rx := none }) (htx s q))
  simpa only [State.sessionTeardown, State.peer] using hboth

theorem State.peer_groupTeardown (s : State) (cause : Cause) (q : StationId) :
    (s.groupTeardown cause).peer q = { s.peer q with lastGroup := none } := by
  unfold State.groupTeardown
  dsimp only
  rw [foldl_allStations (get := State.peer) (f := fun s p => s.withLastGroup p none) (g := fun e => { e with lastGroup := none })
    fun s p q => s.peer_withLastGroup p q none]
  rw [State.peer_congr (s := s) (by simp)]

/-- What a teardown leaves of an entry (R75). -/
theorem State.peer_teardown (s : State) (cause : Cause) (q : StationId) :
    (s.teardown cause).peer q =
      if (s.peer q).presence = .self then { s.peer q with tx := none, rx := none, lastGroup := none }
      else PeerEntry.empty .absent := by
  rw [State.teardown, State.peer_congr (s := ((s.sessionTeardown cause).groupTeardown cause).clearPeers) (by simp only),
    State.peer_clearPeers, State.peer_groupTeardown, State.peer_sessionTeardown]
  rfl

theorem State.teardown_station (s : State) (cause : Cause) :
    (s.teardown cause).mu.station = s.mu.station ∧ (s.teardown cause).mu.number = s.mu.number := by
  simp [State.teardown]

theorem State.teardown_answers (s : State) (cause : Cause) : (s.teardown cause).answers = [] := by
  simp [State.teardown, State.sessionTeardown]

theorem State.lane_teardownLane (s : State) (cause : Cause) : (s.teardownLane cause).gu.lane = none := by
  unfold State.teardownLane
  split
  · next h => exact h
  · rfl

theorem State.teardown_gu (s : State) (cause : Cause) : (s.teardown cause).gu.lane = none ∧ (s.teardown cause).gu.waiting = [] := by
  have hgu : (s.teardown cause).gu = ((s.sessionTeardown cause).groupTeardown cause).gu := by
    simp only [State.teardown, State.clearPeers_keeps]
  have hfold : ∀ u : State, (allStations.foldl (fun s p => s.withLastGroup p none) u).gu = u.gu :=
    foldl_keeps State.gu (fun (s : State) p => s.withLastGroup p none) (fun _ _ => rfl) allStations
  rw [hgu]
  unfold State.groupTeardown
  dsimp only
  rw [hfold]
  simp [State.lane_teardownLane]

/-! ### What the operations on sessions leave of the peer table -/

theorem State.peers_terminalBreak (s : State) (p : StationId) (cause : Cause) :
    (s.terminalBreak p cause).peers = (s.withTx p none).peers :=
  State.peers_ext fun q => by rw [State.peer_terminalBreak, State.peer_withTx]

theorem State.peers_reopeningBreak (s : State) (p : StationId) (cause : Cause) :
    (s.reopeningBreak p cause).peers = (s.withTx p (s.reopenedTx p cause)).peers :=
  State.peers_ext fun q => by rw [State.peer_reopeningBreak, State.peer_withTx]

/-- The session whose waiting list's head has entered the window (R109). -/
def TxSession.entered (x : TxSession) (w : WaitingEntry) (rest : List WaitingEntry) : TxSession :=
  { x with waiting := rest, window := x.window ++ [⟨w.slot, x.nextSeq⟩], nextSeq := x.nextSeq + 1 }

theorem State.enterWindow_of_tx {s : State} {p : StationId} {x : TxSession} {w : WaitingEntry} {rest : List WaitingEntry}
    (hx : s.tx p = some x) (hw : x.waiting = w :: rest) :
    s.enterWindow p = (s.toInFlight w.slot).withTx p (some (x.entered w rest)) := by
  simp only [State.enterWindow, hx, hw]
  rfl

theorem State.enterWindow_of_nothing {s : State} {p : StationId} {x : TxSession} (hx : s.tx p = some x) (hw : x.waiting = []) :
    s.enterWindow p = s := by
  simp only [State.enterWindow, hx, hw]

/-- The session to `p` after CANCEL, if one is left (R103). -/
def TxSession.without (x : TxSession) (k : SlotId) : Option TxSession :=
  if x.state = .opening ∧ (x.waiting.filter fun w => decide (w.slot ≠ k)) = [] then none
  else some { x with waiting := x.waiting.filter fun w => decide (w.slot ≠ k) }

theorem State.dropWaiting_of_some {s : State} {p : StationId} {x : TxSession} (hx : s.tx p = some x) (k : SlotId) :
    s.dropWaiting p k = s.withTx p (x.without k) := by
  simp only [State.dropWaiting, TxSession.without, hx]
  split <;> rfl

theorem State.dropWaiting_of_none {s : State} {p : StationId} (hx : s.tx p = none) (k : SlotId) : s.dropWaiting p k = s := by
  simp only [State.dropWaiting, hx]

/-- What CANCEL leaves of the peer table: a session loses a waiting parcel, and goes when its last one does (R103). -/
theorem State.peers_withdraw (s : State) (k : SlotId) :
    (s.withdraw k).peers = s.peers ∨
    ∃ p x, s.tx p = some x ∧ (s.withdraw k).peers = (s.withTx p (x.without k)).peers := by
  unfold State.withdraw
  split
  · exact .inl rfl
  · split
    · next p _ =>
      have htx : (s.setOutcome k (directOutcome .cancelled .host)).tx p = s.tx p := by
        simp [State.tx, State.peer_congr (s := s)]
      cases hx : s.tx p with
      | none =>
        left
        rw [State.dropWaiting_of_none (htx.trans hx)]
        simp
      | some x =>
        refine .inr ⟨p, x, hx, ?_⟩
        rw [State.dropWaiting_of_some (htx.trans hx)]
        simp [State.peer_congr (s := s)]
    · left
      simp

@[simp] theorem State.withdraw_keeps (s : State) (k : SlotId) :
    (s.withdraw k).lm = s.lm ∧ (s.withdraw k).tu = s.tu ∧ (s.withdraw k).mu = s.mu ∧ (s.withdraw k).delivered = s.delivered ∧
    (s.withdraw k).ticket = s.ticket ∧ (s.withdraw k).answers = s.answers ∧ (s.withdraw k).cfg = s.cfg := by
  unfold State.withdraw
  split
  · simp
  · split <;> simp

/-- What CANCEL leaves of the Group Unit: its waiting list may lose the parcel (R103). -/
theorem State.gu_withdraw (s : State) (k : SlotId) :
    (s.withdraw k).gu = s.gu ∨ (s.withdraw k).gu = { s.gu with waiting := s.gu.waiting.filter fun j => decide (j ≠ k) } := by
  unfold State.withdraw
  split
  · exact .inl rfl
  · split
    · exact .inl (by simp)
    · exact .inr (by simp)

/-- The session to `p` after a POST (R101, R102). -/
def State.sessionWith (s : State) (p : StationId) (k : SlotId) (urgent : Bool) : TxSession :=
  match s.tx p with
  | none => newSession k
  | some x => { x with waiting := s.placeWaiting x.waiting k urgent }

theorem State.queueDirect_eq (s : State) (p : StationId) (k : SlotId) (urgent : Bool) :
    s.queueDirect p k urgent = s.withTx p (some (s.sessionWith p k urgent)) := by
  unfold State.queueDirect State.sessionWith
  cases s.tx p <;> rfl

/-! ### The events that are no acts -/

theorem foldl_keep {I : State → Prop} {f : State → StationId → State} (hf : ∀ s p, I s → I (f s p)) (l : List StationId) {s : State}
    (hs : I s) : I (l.foldl f s) := by
  induction l generalizing s with
  | nil => exact hs
  | cons p l ih => exact ih (hf s p hs)

/-- What every act keeps, and what the loss of a presence part and one interval more of silence keep, a deed keeps. -/
theorem Deed.keep_of_parts {I : State → Prop} (hact : ∀ {s t}, Act s t → I s → I t)
    (habsent : ∀ (s : State) (p : StationId), (s.peer p).presence = .present → I s → I (s.withPresence p .absent 0 0))
    (hage : ∀ (s : State) (p : StationId), I s → I (s.ageOne p)) {s t : State} (h : Deed s t) (hs : I s) : I t := by
  have hlost : ∀ (s : State) (p : StationId) (cause : Cause), (s.peer p).presence = .present → I s → I (s.peerAbsent p cause) :=
    fun s p cause hp hs => (State.groupPeerEvent_acts _ p).keep hact
      (hact (.terminalBreak _ p cause) (hact (.rx _ p none (.inl rfl)) (habsent s p hp hs)))
  cases h with
  | act h => exact hact h hs
  | peerAbsent p cause hp => exact hlost s p cause hp hs
  | age =>
    refine foldl_keep (fun u p hu => ?_) _ (foldl_keep hage _ hs)
    unfold State.loseOne
    split
    · next hp => exact hact (.raise _ _ _) (hlost u p _ (of_decide_eq_true hp.1) hu)
    · exact hu

/-! ### The line and the transmitter (O49) -/

theorem Act.lm {s t : State} (h : Act s t) : t.lm = s.lm ∨ s.lm.goesOn t.lm := by
  cases h with
  | line lm hlm => exact .inr hlm
  | _ => exact .inl (by simp)

theorem Act.tu {s t : State} (h : Act s t) : s.tu.goesOn t.tu ∨ s.tu.stops t.tu ∨ ∃ o, t.tu = s.tu.begin o := by
  have hbecome : ∀ st, s.tu.goesOn (s.become st).tu ∨ s.tu.stops (s.become st).tu := by
    intro st
    rw [State.become_tu]
    split
    · exact .inl ⟨rfl, Iff.rfl, id⟩
    · exact .inr ⟨rfl, rfl, fun ⟨hf, _, _⟩ => ⟨hf, Nat.zero_le _, Nat.zero_le _⟩⟩
  have hsame : t.tu = s.tu → s.tu.goesOn t.tu := fun h => h ▸ ⟨rfl, Iff.rfl, id⟩
  cases h with
  | transmit u hu => exact .inl hu
  | stop u hu _ => exact .inr (.inl hu)
  | stopAnswer u isSent hu _ => exact .inr (.inl hu)
  | begin o _ _ _ => exact .inr (.inr ⟨o, rfl⟩)
  | beginAnswer o _ _ _ => exact .inr (.inr ⟨o, rfl⟩)
  | become st _ => exact (hbecome st).imp id .inl
  | teardown st cause _ _ =>
    rw [show ((s.become st).teardown cause).tu = (s.become st).tu by simp]
    exact (hbecome st).imp id .inl
  | _ => exact .inl (hsame (by simp))

theorem LineMonitor.runAfter_of_same {lm : LineMonitor} {b : Level} (h : lm.polarity = some b) :
    lm.runAfter b = min 32 (lm.runLength + 1) := by simp [LineMonitor.runAfter, h, Config.heldLength]

theorem LineMonitor.runAfter_of_new {lm : LineMonitor} {b : Level} (h : lm.polarity ≠ some b) : lm.runAfter b = 1 := by
  simp [LineMonitor.runAfter, h]

/-- After a recessive sample the line is QUIET exactly with a run of 10 or more, and never HELD (R12). -/
theorem lineAfter_recessive {s : State} (hs : lineConsistent s) :
    (s.lm.lineAfter recessive = .quiet ↔ 10 ≤ s.lm.runAfter recessive) ∧ s.lm.lineAfter recessive ≠ .held := by
  obtain ⟨-, -, hquiet, hq, hheld⟩ := hs
  by_cases hp : s.lm.polarity = some recessive
  · rw [if_pos hp] at hquiet
    have hrun := LineMonitor.runAfter_of_same hp
    cases hl : s.lm.line with
    | quiet =>
      have := hq.mp hl
      simp [LineMonitor.lineAfter, hl]
      omega
    | active =>
      have : ¬ 10 ≤ s.lm.quietRun := fun h => by simpa [hl] using hq.mpr h
      simp only [LineMonitor.lineAfter, hl, Config.quietLength]
      split <;> simp <;> omega
    | held => simp [hp, hl] at hheld
  · rw [if_neg hp] at hquiet
    rw [LineMonitor.runAfter_of_new hp]
    cases hl : s.lm.line <;> simp_all [LineMonitor.lineAfter, LineMonitor.runAfter_of_new, Config.quietLength]

/-- After a dominant sample the line is HELD exactly with a run of 32, and never QUIET (R12). -/
theorem lineAfter_dominant {s : State} (hs : lineConsistent s) :
    (s.lm.lineAfter dominant = .held ↔ s.lm.runAfter dominant = 32) ∧ s.lm.lineAfter dominant ≠ .quiet := by
  obtain ⟨hlen, -, hquiet, hq, hheld⟩ := hs
  by_cases hp : s.lm.polarity = some dominant
  · cases hl : s.lm.line with
    | quiet => simp_all
    | active =>
      simp only [LineMonitor.lineAfter, hl, Config.heldLength]
      split <;> simp [*]
    | held =>
      have hfull := (hheld.mp hl).2
      simp [LineMonitor.lineAfter, hl, LineMonitor.runAfter_of_same hp, hfull]
  · rw [LineMonitor.runAfter_of_new hp]
    cases hl : s.lm.line <;> simp_all [LineMonitor.lineAfter, LineMonitor.runAfter_of_new, Config.heldLength]

/-- The Line Monitor's record stays consistent (R10, R12). -/
theorem lineConsistent_of_goesOn {s t : State} (h : s.lm.goesOn t.lm) (hs : lineConsistent s) : lineConsistent t := by
  rcases h with ⟨b, hlm⟩ | ⟨v, hlm⟩ | hlm <;> unfold lineConsistent <;> rw [hlm]
  · have hrun : s.lm.runAfter b ≤ 32 := by
      unfold LineMonitor.runAfter Config.heldLength
      split <;> omega
    refine ⟨hrun, by simp [LineMonitor.afterSample], by cases b <;> simp [LineMonitor.afterSample], ?_⟩
    cases b with
    | true =>
      obtain ⟨hq, hheld⟩ := lineAfter_recessive hs
      simp_all [LineMonitor.afterSample]
    | false =>
      obtain ⟨hheld, hq⟩ := lineAfter_dominant hs
      simp_all [LineMonitor.afterSample]
  · exact hs
  · simp [LineMonitor.atMark]

theorem Act.keeps_lineConsistent {s t : State} (h : Act s t) (hs : lineConsistent s) : lineConsistent t := by
  rcases h.lm with hlm | hlm
  · unfold lineConsistent
    rwa [hlm]
  · exact lineConsistent_of_goesOn hlm hs

theorem Act.keeps_transmitRanges {s t : State} (h : Act s t) (hs : transmitRanges s) : transmitRanges t := by
  obtain ⟨hf, ha, hb, hbuf⟩ := hs
  have hcounts : s.tu.countsInRange := ⟨hf, ha, hb⟩
  rcases h.tu with ⟨hbuffer, hstate, hrange⟩ | ⟨-, hbuffer, hrange⟩ | ⟨o, ht⟩
  · obtain ⟨hf, ha, hb⟩ := hrange hcounts
    exact ⟨hf, ha, hb, fun hw => hbuffer.trans (hbuf (hstate.mp hw))⟩
  · obtain ⟨hf, ha, hb⟩ := hrange hcounts
    exact ⟨hf, ha, hb, fun _ => hbuffer⟩
  · unfold transmitRanges
    rw [ht]
    exact ⟨hf, Nat.zero_le _, Nat.zero_le _, fun hw => by cases hw⟩

/-- After a change of station state an attempt is in progress only where the new state may drive the line (R40). -/
theorem attempts_become {s : State} {st : StationState} (hw : (s.become st).tu.state ≠ .wait) : st = .member ∨ st = .leaving := by
  rw [State.become_tu] at hw
  cases st with
  | member => exact .inl rfl
  | leaving => exact .inr rfl
  | detached | joining | silenced | halted =>
    by_cases hwait : s.tu.state = .wait <;> simp [StationState.mayDrive, hwait, TransmitUnit.toWait] at hw

theorem Act.keeps_attemptsAllowed {s t : State} (h : Act s t) (hs : attemptsAllowed s) : attemptsAllowed t := by
  have hsame : t.tu.state = s.tu.state → t.mu.station = s.mu.station → attemptsAllowed t := fun htu hmu => by
    unfold attemptsAllowed
    rwa [htu, hmu]
  cases h with
  | flags mu hst _ _ => exact hsame rfl hst
  | transmit u hu =>
    obtain ⟨-, hstate, -⟩ := hu
    exact fun hw => hs fun hw' => hw (hstate.mpr hw')
  | stop u hu _ => exact fun hw => absurd hu.1 hw
  | stopAnswer u isSent hu _ => exact fun hw => absurd hu.1 hw
  | begin o _ hst _ => exact fun _ => hst
  | beginAnswer o _ hst _ => exact fun _ => .inl hst
  | become st _ =>
    intro hw
    rw [State.become_mu]
    exact attempts_become hw
  | teardown st cause _ _ =>
    intro hw
    rw [(State.teardown_station _ _).1, State.become_mu]
    exact attempts_become (s := s) (by simpa using hw)
  | _ => exact hsame (by simp) (by simp)

theorem TakesEntry.line {s t : State} (h : TakesEntry s t) : t.lm = s.lm ∧ t.tu = s.tu ∧ t.mu = s.mu ∧ t.peers = s.peers ∧
    t.answers = s.answers ∧ t.gu = s.gu ∧ t.cfg = s.cfg := by
  cases h <;> simp

/-- At the reset values the records of the line and of the transmitter are consistent. -/
theorem line_of_blocksReset (cfg : ConfigBlock) (reply : Reply) (port : Port) (low : Bool) (addr : StationId) (rate : Fin 4)
    (pending : List Instr) :
    lineConsistent (.blocksReset cfg reply port low addr rate pending) ∧
    transmitRanges (.blocksReset cfg reply port low addr rate pending) ∧
    attemptsAllowed (.blocksReset cfg reply port low addr rate pending) := by
  simp [lineConsistent, transmitRanges, attemptsAllowed, State.blocksReset, LineMonitor.reset, TransmitUnit.reset]

/-- A step keeps what every act, the loss of a presence part, an interval of silence, an entry taken and a reset keep. -/
theorem step_keeps_of_acts {I : State → Prop} (hact : ∀ {s t}, Act s t → I s → I t)
    (habsent : ∀ (s : State) (p : StationId), (s.peer p).presence = .present → I s → I (s.withPresence p .absent 0 0))
    (hage : ∀ (s : State) (p : StationId), I s → I (s.ageOne p)) (htake : ∀ {s t}, TakesEntry s t → I s → I t)
    {s t : State} (hresets : ∀ cfg reply port low addr rate pending, (cfg = s.cfg ∨ cfg = .default) →
      I (.blocksReset cfg reply port low addr rate pending)) (h : step s = .next t) (hs : I s) : I t :=
  step_keeps (Deed.keep_of_parts hact habsent hage) htake hresets h hs

/-- Settles O49: each act keeps the three records consistent; an act changes the Line Monitor's record as `LineMonitor.goesOn` says,
and the transmitter goes on, stops or begins. -/
theorem lineInvariants : Obligations.LineInvariants := by
  intro s t h
  refine ⟨?_, ?_, ?_⟩
  · refine step_keeps_of_acts (I := lineConsistent) Act.keeps_lineConsistent (fun _ _ _ hs => hs) (fun s p hs => ?_)
      (fun h hs => ?_) (fun _ _ _ _ _ _ _ _ => (line_of_blocksReset ..).1) h
    · unfold lineConsistent
      rwa [show (s.ageOne p).lm = s.lm by simp]
    · unfold lineConsistent
      rwa [h.line.1]
  · refine step_keeps_of_acts (I := transmitRanges) Act.keeps_transmitRanges (fun _ _ _ hs => hs) (fun s p hs => ?_)
      (fun h hs => ?_) (fun _ _ _ _ _ _ _ _ => (line_of_blocksReset ..).2.1) h
    · unfold transmitRanges
      rwa [show (s.ageOne p).tu = s.tu by simp]
    · obtain ⟨-, htu, -⟩ := h.line
      unfold transmitRanges
      rwa [htu]
  · refine step_keeps_of_acts (I := attemptsAllowed) Act.keeps_attemptsAllowed (fun _ _ _ hs => hs) (fun s p hs => ?_)
      (fun h hs => ?_) (fun _ _ _ _ _ _ _ _ => (line_of_blocksReset ..).2.2) h
    · unfold attemptsAllowed
      rwa [show (s.ageOne p).tu = s.tu by simp, show (s.ageOne p).mu = s.mu by simp]
    · obtain ⟨-, htu, hmu, -⟩ := h.line
      unfold attemptsAllowed
      rwa [htu, hmu]

end Sys2Proof.Machine
end

section
/-!
PROOFS. O51 and O52: the peer table, and that the work for the line exists only in MEMBER and stays within its bounds.
-/
namespace Sys2Proof.Machine

open Sys2Proof Sys2Proof.Safety

/-! ### The peer table (O51) -/

/-- The presence part of an entry (R62). -/
def PeerEntry.part (e : PeerEntry) : Presence × GroupSet × Nat := (e.presence, e.groups, e.silence)

/-- An entry is as the table allows at a station number, when the own number is `own` (R62). -/
def PeerEntry.consistentAt (own p : StationId) (e : PeerEntry) : Prop :=
  (e.presence = .self ↔ p = own) ∧ (e.presence = .absent → e.groups = 0 ∧ e.silence = 0) ∧ e.silence ≤ 2

theorem PeerEntry.consistentAt_of_part {own p : StationId} {e e' : PeerEntry} (h : e'.part = e.part) :
    e'.consistentAt own p ↔ e.consistentAt own p := by
  simp only [PeerEntry.part, Prod.mk.injEq] at h
  obtain ⟨hpr, hgr, hsi⟩ := h
  unfold PeerEntry.consistentAt
  rw [hpr, hgr, hsi]

/-- The presence parts and the own number are all that the table's consistency reads. -/
theorem peersConsistent_of_part {s t : State} (hnum : t.mu.number = s.mu.number)
    (h : ∀ q, (t.peer q).part = (s.peer q).part) (hs : peersConsistent s) : peersConsistent t := fun q => by
  have := (PeerEntry.consistentAt_of_part (own := s.mu.number) (p := q) (h q)).mpr (hs q)
  rwa [← hnum] at this

theorem State.part_withTx (s : State) (p : StationId) (y : Option TxSession) (q : StationId) :
    ((s.withTx p y).peer q).part = (s.peer q).part := by
  rw [State.peer_withTx]
  split
  · next hq =>
    subst hq
    rfl
  · rfl

theorem State.part_of_withTx {s t : State} {p : StationId} {y : Option TxSession} (h : t.peers = (s.withTx p y).peers)
    (q : StationId) : (t.peer q).part = (s.peer q).part := by
  rw [State.peer_congr h, State.part_withTx]

/-- What an act may make of the session of an entry (Table 6-1), the retry limit and the window size given. -/
inductive NextSession (limit room : Nat) : Option TxSession → Option TxSession → Prop
  | gone (x : Option TxSession) : NextSession limit room x none
  | edited (x y : TxSession) : x.edited limit y → NextSession limit room (some x) (some y)
  | opened (x : TxSession) : x.state = .opening → NextSession limit room (some x) (some x.becomeOpen)
  | acknowledged (x y : TxSession) (n : Nat) : x.state = .opened → n ≤ x.window.length →
      ({ x with window := x.window.drop n } : TxSession).edited limit y → NextSession limit room (some x) (some y)
  | reopened (x : TxSession) (l : List WaitingEntry) : l ≠ [] → NextSession limit room (some x) (some (x.reopened l))
  | entered (x : TxSession) (w : WaitingEntry) (rest : List WaitingEntry) : x.state = .opened → x.waiting = w :: rest →
      x.window.length < room → NextSession limit room (some x) (some (x.entered w rest))
  | rewaits (x : TxSession) (l : List WaitingEntry) : (x.state = .opening → l ≠ []) →
      NextSession limit room (some x) (some { x with waiting := l })
  | created (k : SlotId) : NextSession limit room none (some (newSession k))

/-- What an act may do to the peer table. -/
inductive PeerMove (s t : State) : Prop
  | same : t.peers = s.peers → PeerMove s t
  | session (p : StationId) (y : Option TxSession) : t.peers = (s.withTx p y).peers → t.mu = s.mu → t.cfg = s.cfg →
      NextSession s.cfg.retryLimit s.cfg.window (s.tx p) y →
      (s.tx p = none → y ≠ none → s.mu.station = .member ∧ (s.peer p).presence = .present) → PeerMove s t
  | presence (p : StationId) (pr : Presence) (groups : GroupSet) : (s.peer p).presence ≠ .self →
      (pr = .present ∨ (pr = .absent ∧ groups = 0 ∧ s.mu.station ≠ .member)) → t = s.withPresence p pr groups 0 → PeerMove s t
  | rx (p : StationId) (e : Option Seq) :
      (e = none ∨ (s.peer p).rx ≠ none ∨ (s.mu.station = .member ∧ (s.peer p).presence = .present)) → t = s.withRx p e →
      PeerMove s t
  | lastGroup (p : StationId) (q : Option Seq) : t = s.withLastGroup p q → PeerMove s t
  | clearPeers : s.mu.station ≠ .member → t = s.clearPeers → PeerMove s t
  | teardown (st : StationState) (cause : Cause) : t = (s.become st).teardown cause → PeerMove s t

theorem insertAhead_ne_nil {α : Type} (normal : α → Bool) (x : α) (l : List α) : insertAhead normal x l ≠ [] := by
  cases l with
  | nil => simp [insertAhead]
  | cons y ys =>
    unfold insertAhead
    split <;> simp

theorem State.placeWaiting_ne_nil (s : State) (l : List WaitingEntry) (k : SlotId) (urgent : Bool) :
    s.placeWaiting l k urgent ≠ [] := by
  unfold State.placeWaiting
  split
  · exact insertAhead_ne_nil _ _ _
  · simp

/-- A reopening break leaves a session that has something to send, or none (R122). -/
theorem State.reopenedTx_next (s : State) (p : StationId) (cause : Cause) (limit room : Nat) :
    NextSession limit room (s.tx p) (s.reopenedTx p cause) := by
  unfold State.reopenedTx
  cases hx : s.tx p with
  | none => exact .gone none
  | some x =>
    rw [Option.bind_some]
    split
    · exact .gone _
    · next hl => exact .reopened x _ hl

theorem TxSession.without_next (x : TxSession) (k : SlotId) (limit room : Nat) :
    NextSession limit room (some x) (x.without k) := by
  unfold TxSession.without
  split
  · exact .gone _
  · next h => exact .rewaits x _ fun hst hnil => h ⟨hst, hnil⟩

theorem State.sessionWith_next (s : State) (p : StationId) (k : SlotId) (urgent : Bool) (limit room : Nat) :
    NextSession limit room (s.tx p) (some (s.sessionWith p k urgent)) := by
  unfold State.sessionWith
  cases hx : s.tx p with
  | none => exact .created k
  | some x => exact .rewaits x _ fun _ => s.placeWaiting_ne_nil _ _ _

theorem State.tx_congr {s t : State} (h : t.peers = s.peers) (p : StationId) : t.tx p = s.tx p := by
  rw [State.tx, State.tx, State.peer_congr h]

theorem State.withTx_peers_congr {s t : State} (h : t.peers = s.peers) (p : StationId) (y : Option TxSession) :
    (t.withTx p y).peers = (s.withTx p y).peers := by
  simp [State.peer_congr h, h]

theorem Act.peerMove {s t : State} (h : Act s t) : PeerMove s t := by
  have hold : ∀ {p x} {y : Option TxSession}, s.tx p = some x → s.tx p = none → y ≠ none →
      s.mu.station = .member ∧ (s.peer p).presence = .present := fun hx hnone => absurd (hx.symm.trans hnone) (by simp)
  cases h with
  | presence p pr groups hself hpr => exact .presence p pr groups hself hpr rfl
  | rx p e he => exact .rx p e he rfl
  | lastGroup p q => exact .lastGroup p q rfl
  | clearPeers hst => exact .clearPeers hst rfl
  | teardown st cause _ _ => exact .teardown st cause rfl
  | session p x y hx hy => exact .session p _ rfl rfl rfl (hx ▸ .edited x y hy) (hold hx)
  | opened p x hx hst => exact .session p _ rfl rfl rfl (hx ▸ .opened x hst) (hold hx)
  | acknowledge p x y n o hx hst hn hy =>
    refine .session p (some y) ?_ (by simp) (by simp) (hx ▸ .acknowledged x y n hst hn hy) (hold hx)
    exact State.withTx_peers_congr (by simp) p _
  | terminalBreak p cause =>
    exact .session p none (s.peers_terminalBreak p cause) (by simp) (by simp) (.gone _) fun _ h => absurd rfl h
  | reopeningBreak p cause =>
    refine .session p _ (s.peers_reopeningBreak p cause) (by simp) (by simp) (s.reopenedTx_next p cause _ _) fun hx h => ?_
    exact absurd (by rw [State.reopenedTx, hx, Option.bind_none]) h
  | enterWindow p x hx hst hroom =>
    cases hw : x.waiting with
    | nil => exact .same (by rw [State.enterWindow_of_nothing hx hw])
    | cons w rest =>
      refine .session p _ ?_ (by simp) (by simp) (hx ▸ NextSession.entered x w rest hst hw hroom) (hold hx)
      rw [State.enterWindow_of_tx hx hw]
      exact State.withTx_peers_congr (by simp) p _
  | withdraw k =>
    rcases s.peers_withdraw k with h | ⟨p, x, hx, h⟩
    · exact .same h
    · exact .session p _ h (by simp) (by simp) (hx ▸ x.without_next k _ _) (hold hx)
  | postDirect k p urgent payload _ hst hp =>
    have hpeers : (s.fillOutbound k (.station p) urgent payload).peers = s.peers := by simp
    rw [State.queueDirect_eq]
    refine .session p _ (State.withTx_peers_congr hpeers p _) (by simp) (by simp) ?_ fun _ _ => ⟨hst, hp⟩
    rw [← State.tx_congr hpeers]
    exact State.sessionWith_next _ _ _ _ _ _
  | _ => exact .same (by simp)

theorem Act.number {s t : State} (h : Act s t) : t.mu.number = s.mu.number := by
  cases h with
  | flags mu _ hnum _ => exact hnum
  | teardown st cause _ _ =>
    rw [(State.teardown_station _ _).2, State.become_mu]
  | _ => simp

/-- MEMBER is left by a teardown alone (R40, R75). -/
theorem Act.leaves {s t : State} (h : Act s t) (ht : t.mu.station ≠ .member) :
    s.mu.station ≠ .member ∨ ∃ st cause, t = (s.become st).teardown cause := by
  cases h with
  | flags mu hst _ _ => exact .inl (hst ▸ ht)
  | become st hst => exact .inl hst
  | teardown st cause _ _ => exact .inr ⟨st, cause, rfl⟩
  | _ => exact .inl (by simpa using ht)

/-! #### The presence parts -/

theorem Act.keeps_peersConsistent {s t : State} (h : Act s t) (hs : peersConsistent s) : peersConsistent t := by
  have hnum := h.number
  cases h.peerMove with
  | same hp => exact peersConsistent_of_part hnum (fun q => by rw [State.peer_congr hp]) hs
  | session p y hp _ _ _ _ => exact peersConsistent_of_part hnum (State.part_of_withTx hp) hs
  | presence p pr groups hself hpr ht =>
    intro q
    rw [hnum, ht, State.peer_withPresence]
    by_cases hq : q = p
    · subst hq
      have hown : q ≠ s.mu.number := fun h => hself ((hs q).1.mpr h)
      rcases hpr with rfl | ⟨rfl, rfl, -⟩ <;> simp [hown]
    · rw [if_neg hq]
      exact hs q
  | rx p e _ ht =>
    refine peersConsistent_of_part hnum (fun q => ?_) hs
    rw [ht, State.peer_withRx]
    split
    · next hq => rw [hq]; rfl
    · rfl
  | lastGroup p e ht =>
    refine peersConsistent_of_part hnum (fun q => ?_) hs
    rw [ht, State.peer_withLastGroup]
    split
    · next hq => rw [hq]; rfl
    · rfl
  | clearPeers _ ht =>
    intro q
    rw [hnum, ht, State.peer_clearPeers]
    obtain ⟨hself, -, hsilence⟩ := hs q
    by_cases hq : (s.peer q).presence = .self
    · simp [hq, ← hself, hsilence]
    · simp [hq, ← hself]
  | teardown st cause ht =>
    intro q
    have hq' : (s.become st).peer q = s.peer q := State.peer_congr (by simp) q
    rw [hnum, ht, State.peer_teardown, hq']
    obtain ⟨hself, -, hsilence⟩ := hs q
    by_cases hq : (s.peer q).presence = .self
    · simp [hq, ← hself, hsilence]
    · simp [hq, ← hself, PeerEntry.empty]

theorem Deed.keeps_peersConsistent {s t : State} (h : Deed s t) (hs : peersConsistent s) : peersConsistent t := by
  cases h with
  | act h => exact h.keeps_peersConsistent hs
  | peerAbsent p cause hp =>
    intro q
    rw [show (s.peerAbsent p cause).mu = s.mu by simp, State.peer_peerAbsent]
    by_cases hq : q = p
    · subst hq
      have hown : q ≠ s.mu.number := fun h => by simpa [hp] using (hs q).1.mpr h
      simp [PeerEntry.empty, hown]
    · rw [if_neg hq]
      exact hs q
  | age =>
    intro q
    rw [show s.age.mu = s.mu by simp, State.peer_age]
    have hq := hs q
    split
    · next hp =>
      have hown : q ≠ s.mu.number := fun h => by simpa [hp] using hq.1.mpr h
      split
      · simp [PeerEntry.empty, hown]
      · simp [hp, hown]
        omega
    · exact hq

/-! #### Work for the line -/

/-- Outside MEMBER no session and no rx record exists (R74, R75). -/
def noSessionsOutside (s : State) : Prop := s.mu.station ≠ .member → ∀ p, (s.peer p).tx = none ∧ (s.peer p).rx = none

/-- Outside MEMBER no answer and no group parcel waits, and the lane is IDLE (R75, R141). -/
def noWorkOutside (s : State) : Prop := s.mu.station ≠ .member → s.answers = [] ∧ s.gu.lane = none ∧ s.gu.waiting = []

/-- Only PRESENT entries hold a session or an rx record (R74). -/
def heldByPresent (s : State) : Prop :=
  ∀ p, ((s.peer p).tx ≠ none ∨ (s.peer p).rx ≠ none) → (s.peer p).presence = .present

theorem workOnlyInMember_iff (s : State) :
    workOnlyInMember s ↔ noSessionsOutside s ∧ noWorkOutside s ∧ heldByPresent s := by
  constructor
  · rintro ⟨hheld, hwork⟩
    refine ⟨fun hst p => ?_, hwork, fun p h => (hheld p h).2⟩
    by_contra hnot
    refine hst (hheld p ?_).1
    by_cases htx : (s.peer p).tx = none
    · exact .inr fun hrx => hnot ⟨htx, hrx⟩
    · exact .inl htx
  · rintro ⟨hno, hwork, hheld⟩
    refine ⟨fun p h => ⟨?_, hheld p h⟩, hwork⟩
    by_contra hst
    obtain ⟨htx, hrx⟩ := hno hst p
    exact h.elim (absurd htx) (absurd hrx)

theorem noSessionsOutside.member {s : State} (hs : noSessionsOutside s) {p : StationId} {x : TxSession} (hx : s.tx p = some x) :
    s.mu.station = .member := by
  by_contra hst
  exact absurd (hx.symm.trans (hs hst p).1) (by simp)

theorem noSessions_teardown (s : State) (cause : Cause) (q : StationId) :
    ((s.teardown cause).peer q).tx = none ∧ ((s.teardown cause).peer q).rx = none := by
  rw [State.peer_teardown]
  split <;> simp [PeerEntry.empty]

theorem Act.keeps_noSessionsOutside {s t : State} (h : Act s t) (hs : noSessionsOutside s) : noSessionsOutside t := by
  intro ht q
  rcases h.leaves ht with hst | ⟨st, cause, rfl⟩
  · have hnone := hs hst
    cases h.peerMove with
    | same hp =>
      rw [State.peer_congr hp]
      exact hnone q
    | session p y hp _ _ _ hnew =>
      have hy : y = none := Classical.byContradiction fun hy => hst (hnew (hnone p).1 hy).1
      rw [State.peer_congr hp, State.peer_withTx]
      split
      · exact ⟨hy, (hnone p).2⟩
      · exact hnone q
    | presence p pr groups _ _ ht =>
      rw [ht, State.peer_withPresence]
      split
      · exact hnone p
      · exact hnone q
    | rx p e he ht =>
      have he : e = none := he.resolve_right fun h => h.elim (fun h => h (hnone p).2) fun h => hst h.1
      rw [ht, State.peer_withRx]
      split
      · exact ⟨(hnone p).1, he⟩
      · exact hnone q
    | lastGroup p e ht =>
      rw [ht, State.peer_withLastGroup]
      split
      · exact hnone p
      · exact hnone q
    | clearPeers _ ht =>
      rw [ht, State.peer_clearPeers]
      split <;> exact hnone q
    | teardown st cause ht =>
      rw [ht]
      exact noSessions_teardown _ _ q
  · exact noSessions_teardown _ _ q

theorem Act.keeps_noWorkOutside {s t : State} (h : Act s t) (hs : noWorkOutside s) : noWorkOutside t := by
  intro ht
  rcases h.leaves ht with hst | ⟨st, cause, rfl⟩
  · obtain ⟨hans, hlane, hwait⟩ := hs hst
    cases h with
    | stopAnswer u isSent _ _ => exact ⟨by simp [hans, queueAfterResult], hlane, hwait⟩
    | beginAnswer o _ hm _ => exact absurd hm hst
    | answer p x c n hm => exact absurd hm hst
    | postDirect k p urgent payload _ hm _ => exact absurd hm hst
    | postGroup k g urgent payload _ hm => exact absurd hm hst
    | teardown st cause hm _ => exact absurd hm hst
    | lane l l' hl _ _ => exact absurd (hl.symm.trans hlane) (by simp)
    | endLane l l' code cause hl _ => exact absurd (hl.symm.trans hlane) (by simp)
    | withdraw k =>
      refine ⟨by simpa using hans, ?_⟩
      rcases s.gu_withdraw k with hgu | hgu <;> rw [hgu] <;> simp [hlane, hwait]
    | _ => exact ⟨by simpa using hans, by simpa using hlane, by simpa using hwait⟩
  · exact ⟨State.teardown_answers _ _, State.teardown_gu _ _⟩

theorem Act.keeps_heldByPresent {s t : State} (h : Act s t) (hno : noSessionsOutside s) (hs : heldByPresent s) :
    heldByPresent t := by
  intro q hq
  cases h.peerMove with
  | same hp =>
    rw [State.peer_congr hp] at hq ⊢
    exact hs q hq
  | session p y hp _ _ _ hnew =>
    rw [State.peer_congr hp, State.peer_withTx] at hq ⊢
    split at hq
    · next hqp =>
      subst hqp
      rw [if_pos rfl]
      show (s.peer q).presence = .present
      by_cases htx : (s.peer q).tx = none
      · exact hq.elim (fun hy => (hnew htx hy).2) fun hrx => hs q (.inr hrx)
      · exact hs q (.inl htx)
    · next hqp =>
      rw [if_neg hqp]
      exact hs q hq
  | presence p pr groups _ hpr ht =>
    rw [ht, State.peer_withPresence] at hq ⊢
    split at hq
    · next hqp =>
      subst hqp
      rw [if_pos rfl]
      rcases hpr with rfl | ⟨rfl, -, hst⟩
      · rfl
      · obtain ⟨htx, hrx⟩ := hno hst q
        exact hq.elim (absurd htx) (absurd hrx)
    · next hqp =>
      rw [if_neg hqp]
      exact hs q hq
  | rx p e he ht =>
    rw [ht, State.peer_withRx] at hq ⊢
    split at hq
    · next hqp =>
      subst hqp
      rw [if_pos rfl]
      rcases hq with htx | hrx
      · exact hs q (.inl htx)
      · exact (he.resolve_left hrx).elim (fun h => hs q (.inr h)) fun h => h.2
    · next hqp =>
      rw [if_neg hqp]
      exact hs q hq
  | lastGroup p e ht =>
    rw [ht, State.peer_withLastGroup] at hq ⊢
    split at hq
    · next hqp =>
      subst hqp
      rw [if_pos rfl]
      exact hs q hq
    · next hqp =>
      rw [if_neg hqp]
      exact hs q hq
  | clearPeers hst ht =>
    obtain ⟨htx, hrx⟩ := hno hst q
    rw [ht, State.peer_clearPeers] at hq
    split at hq <;> exact hq.elim (absurd htx) (absurd hrx)
  | teardown st cause ht =>
    obtain ⟨htx, hrx⟩ := noSessions_teardown (s.become st) cause q
    rw [ht] at hq
    exact hq.elim (absurd htx) (absurd hrx)

theorem Deed.keeps_noSessionsOutside {s t : State} (h : Deed s t) (hs : noSessionsOutside s) : noSessionsOutside t := by
  refine Deed.keep_of_parts (I := noSessionsOutside) Act.keeps_noSessionsOutside (fun s p _ hs hst q => ?_)
    (fun s p hs hst q => ?_) h hs
  · have := hs hst q
    rw [State.peer_withPresence]
    split
    · next hq => subst hq; exact this
    · exact this
  · have := hs (by simpa using hst) q
    rw [State.peer_ageOne]
    split
    · next hq => subst hq; split <;> exact this
    · exact this

theorem Deed.keeps_noWorkOutside {s t : State} (h : Deed s t) (hs : noWorkOutside s) : noWorkOutside t := by
  refine Deed.keep_of_parts (I := noWorkOutside) Act.keeps_noWorkOutside (fun _ _ _ hs => hs) (fun s p hs hst => ?_) h hs
  simpa using hs (by simpa using hst)

theorem Deed.keeps_heldByPresent {s t : State} (h : Deed s t) (hno : noSessionsOutside s) (hs : heldByPresent s) :
    heldByPresent t := by
  cases h with
  | act h => exact h.keeps_heldByPresent hno hs
  | peerAbsent p cause _ =>
    intro q hq
    rw [State.peer_peerAbsent] at hq ⊢
    split at hq
    · simp [PeerEntry.empty] at hq
    · next hqp =>
      rw [if_neg hqp]
      exact hs q hq
  | age =>
    intro q hq
    rw [State.peer_age] at hq ⊢
    split at hq
    · next hp =>
      rw [if_pos hp]
      split at hq
      · simp [PeerEntry.empty] at hq
      · next hsilence =>
        rw [if_neg hsilence]
        exact hp
    · next hp =>
      rw [if_neg hp]
      exact hs q hq

theorem Deed.keeps_workOnlyInMember {s t : State} (h : Deed s t) (hs : workOnlyInMember s) : workOnlyInMember t := by
  rw [workOnlyInMember_iff] at hs ⊢
  obtain ⟨hno, hwork, hheld⟩ := hs
  exact ⟨h.keeps_noSessionsOutside hno, h.keeps_noWorkOutside hwork, h.keeps_heldByPresent hno hheld⟩

/-! #### Reset -/

theorem State.peer_blocksReset (cfg : ConfigBlock) (reply : Reply) (port : Port) (low : Bool) (addr : StationId) (rate : Fin 4)
    (pending : List Instr) (q : StationId) :
    (State.blocksReset cfg reply port low addr rate pending).peer q =
      PeerEntry.empty (if q = addr then .self else .absent) := by
  by_cases hq : q = addr
  · subst hq
    simp [State.peer, State.blocksReset]
  · simp only [State.peer, State.blocksReset, if_neg hq]
    rw [Vector.getElem_set_ne _ _ fun h => hq (Fin.ext h.symm), Vector.getElem_replicate]

theorem peers_of_blocksReset (cfg : ConfigBlock) (reply : Reply) (port : Port) (low : Bool) (addr : StationId) (rate : Fin 4)
    (pending : List Instr) :
    peersConsistent (.blocksReset cfg reply port low addr rate pending) ∧
    workOnlyInMember (.blocksReset cfg reply port low addr rate pending) := by
  refine ⟨fun q => ?_, fun q hq => ?_, fun _ => ⟨rfl, rfl, rfl⟩⟩
  · rw [State.peer_blocksReset]
    by_cases hq : q = addr <;> simp [PeerEntry.empty, hq, State.blocksReset, MembershipUnit.reset]
  · rw [State.peer_blocksReset] at hq
    simp [PeerEntry.empty] at hq

theorem TakesEntry.keeps_workOnlyInMember {s t : State} (h : TakesEntry s t) (hs : workOnlyInMember s) :
    workOnlyInMember t := by
  obtain ⟨-, -, hmu, hpeers, hans, hgu, -⟩ := h.line
  unfold workOnlyInMember
  simp only [State.peer_congr hpeers]
  rwa [hmu, hans, hgu]

/-- Settles O51: the presence parts change by the acts of `PeerMove` alone, and MEMBER is left by a teardown alone, which leaves no
work. -/
theorem peerInvariants : Obligations.PeerInvariants := by
  intro s t h
  refine ⟨?_, ?_⟩
  · refine step_keeps (I := peersConsistent) Deed.keeps_peersConsistent (fun h hs => ?_)
      (fun _ _ _ _ _ _ _ _ => (peers_of_blocksReset ..).1) h
    obtain ⟨-, -, hmu, hpeers, -⟩ := h.line
    exact peersConsistent_of_part (by rw [hmu]) (fun q => by rw [State.peer_congr hpeers]) hs
  · exact step_keeps (I := workOnlyInMember) Deed.keeps_workOnlyInMember TakesEntry.keeps_workOnlyInMember
      (fun _ _ _ _ _ _ _ _ => (peers_of_blocksReset ..).2) h

end Sys2Proof.Machine
end

section
/-!
PROOFS. O52: the answer queue, the lane, the sessions and the configuration block stay within their bounds.
-/
namespace Sys2Proof.Machine

open Sys2Proof Sys2Proof.Safety

/-! ### The answer queue (R136) -/

/-- The bounds of R136 on the queue alone. -/
def queueBounded (l : List AnswerEntry) : Prop :=
  l.length ≤ 8 ∧ (∀ (d : StationId) (x : Subject), l.countP (·.waitsFor d x) ≤ 1) ∧ l.countP (·.onLine) ≤ 1

/-- Placing an answer that has room keeps the bounds, and marks no entry (R126, R137). -/
theorem queueBounded_placeInQueue {l : List AnswerEntry} {d : StationId} {x : Subject} (c : AnswerCode) (n : Seq)
    (hroom : l.any (·.waitsFor d x) = true ∨ l.length < 8) (hl : queueBounded l) :
    queueBounded (placeInQueue l d x c n) ∧ (placeInQueue l d x c n).any (·.onLine) = l.any (·.onLine) := by
  obtain ⟨hlen, hwaits, honline⟩ := hl
  unfold placeInQueue
  split
  · have hkeys : ∀ (d' : StationId) (x' : Subject),
        (fun e : AnswerEntry => e.waitsFor d' x') ∘ (fun e : AnswerEntry => if e.waitsFor d x then { e with code := c, number := n } else e) =
          fun e => e.waitsFor d' x' := fun d' x' => by
      funext e
      simp only [Function.comp]
      split <;> rfl
    have hmarks : (fun e : AnswerEntry => e.onLine) ∘ (fun e : AnswerEntry => if e.waitsFor d x then { e with code := c, number := n } else e) =
        fun e => e.onLine := by
      funext e
      simp only [Function.comp]
      split <;> rfl
    refine ⟨⟨by simpa using hlen, fun d' x' => ?_, ?_⟩, ?_⟩
    · rw [List.countP_map, hkeys]
      exact hwaits d' x'
    · rw [List.countP_map, hmarks]
      exact honline
    · rw [List.any_map, hmarks]
  · next hnone =>
    refine ⟨⟨?_, fun d' x' => ?_, ?_⟩, ?_⟩
    · simp only [List.length_append, List.length_singleton]
      have := hroom.resolve_left hnone
      omega
    · rw [List.countP_append, List.countP_singleton]
      split
      · next hkey =>
        simp only [AnswerEntry.waitsFor, Bool.not_false, Bool.and_true, decide_eq_true_eq] at hkey
        obtain ⟨rfl, rfl⟩ := hkey
        have : l.countP (·.waitsFor d x) = 0 := List.countP_eq_zero.mpr (List.any_eq_false.mp (Bool.eq_false_iff.mpr hnone))
        omega
      · have := hwaits d' x'
        omega
    · rw [List.countP_append, List.countP_singleton]
      simpa using honline
    · simp

theorem length_markOldest (l : List AnswerEntry) : (markOldest l).length = l.length := by
  induction l with
  | nil => rfl
  | cons e rest ih =>
    unfold markOldest
    split <;> simp [ih]

/-- Marking the oldest entry takes it off the waiting ones and adds at most one mark (R138). -/
theorem countP_markOldest (l : List AnswerEntry) :
    (∀ d x, (markOldest l).countP (·.waitsFor d x) ≤ l.countP (·.waitsFor d x)) ∧
    (markOldest l).countP (·.onLine) ≤ l.countP (·.onLine) + 1 := by
  induction l with
  | nil => simp [markOldest]
  | cons e rest ih =>
    obtain ⟨hwaits, honline⟩ := ih
    unfold markOldest
    split
    · refine ⟨fun d x => ?_, ?_⟩
      · have := hwaits d x
        simp only [List.countP_cons]
        omega
      · simp only [List.countP_cons]
        omega
    · refine ⟨fun d x => ?_, ?_⟩
      · simp only [List.countP_cons, AnswerEntry.waitsFor, Bool.not_true, Bool.and_false]
        simp
      · simp only [List.countP_cons]
        split <;> simp_all

theorem queueBounded_markOldest {l : List AnswerEntry} (hl : queueBounded l) (hnone : l.any (·.onLine) = false) :
    queueBounded (markOldest l) := by
  obtain ⟨hlen, hwaits, -⟩ := hl
  obtain ⟨hw, ho⟩ := countP_markOldest l
  refine ⟨by rwa [length_markOldest], fun d x => (hw d x).trans (hwaits d x), ?_⟩
  rwa [List.countP_eq_zero.mpr (List.any_eq_false.mp hnone)] at ho

/-- A bounded queue with an entry on the line: no other entry is. -/
theorem queueBounded.split {l : List AnswerEntry} (hl : queueBounded l) {e : AnswerEntry} (he : l.find? (·.onLine) = some e) :
    ∃ l₁ l₂, l = l₁ ++ e :: l₂ ∧ e.onLine = true ∧ (∀ a ∈ l₁, a.onLine = false) ∧ ∀ a ∈ l₂, a.onLine = false := by
  obtain ⟨hon, l₁, l₂, rfl, h₁⟩ := List.find?_eq_some_iff_append.mp he
  refine ⟨l₁, l₂, rfl, hon, fun a ha => by simpa using h₁ a ha, fun a ha => ?_⟩
  obtain ⟨-, -, hcount⟩ := hl
  rw [List.countP_append, List.countP_cons_of_pos hon] at hcount
  have : l₂.countP AnswerEntry.onLine = 0 := by omega
  simpa using List.countP_eq_zero.mp this a ha

/-- The queue after the result of an attempt with an answer keeps its bounds, and nothing in it is on the line (R139, R140). -/
theorem queueBounded_queueAfterResult {l : List AnswerEntry} (hl : queueBounded l) (isSent : Bool) :
    queueBounded (queueAfterResult l isSent) ∧ (queueAfterResult l isSent).any (·.onLine) = false := by
  cases he : l.find? (·.onLine) with
  | none =>
    have hnone : ∀ a ∈ l, ¬ a.onLine = true := List.find?_eq_none.mp he
    have hsame : queueAfterResult l isSent = l := by
      unfold queueAfterResult
      rw [he, List.eraseP_of_forall_not hnone]
      simp
    rw [hsame]
    exact ⟨hl, List.any_eq_false.mpr hnone⟩
  | some e =>
    obtain ⟨l₁, l₂, rfl, hon, h₁, h₂⟩ := hl.split he
    obtain ⟨hlen, hwaits, -⟩ := hl
    have hkey : ∀ d x, e.waitsFor d x = false := fun d x => by simp [AnswerEntry.waitsFor, hon]
    have hnone : ∀ a ∈ l₁ ++ l₂, ¬ a.onLine = true := fun a ha => by
      rcases List.mem_append.mp ha with ha | ha
      · simp [h₁ a ha]
      · simp [h₂ a ha]
    have hcount : (l₁ ++ l₂).countP (·.onLine) = 0 := List.countP_eq_zero.mpr hnone
    have herase : (l₁ ++ e :: l₂).eraseP (·.onLine) = l₁ ++ l₂ := by
      rw [List.eraseP_append_right _ fun a ha => by simp [h₁ a ha], List.eraseP_cons_of_pos hon]
    have herased : queueBounded (l₁ ++ l₂) := by
      refine ⟨?_, fun d x => ?_, by omega⟩
      · simp only [List.length_append, List.length_cons] at hlen ⊢
        omega
      · have := hwaits d x
        rw [List.countP_append, List.countP_cons_of_neg (by simp [hkey])] at this
        rwa [List.countP_append]
    have hgone : queueBounded ((l₁ ++ e :: l₂).eraseP (·.onLine)) ∧ ((l₁ ++ e :: l₂).eraseP (·.onLine)).any (·.onLine) = false := by
      rw [herase]
      exact ⟨herased, List.any_eq_false.mpr hnone⟩
    unfold queueAfterResult
    rw [he]
    split
    · exact hgone
    · dsimp only
      split
      · exact hgone
      · next hfree =>
        have hmap : (l₁ ++ e :: l₂).map (fun a => if a.onLine then { a with onLine := false } else a) =
            l₁ ++ { e with onLine := false } :: l₂ := by
          have hkept : ∀ l' : List AnswerEntry, (∀ a ∈ l', a.onLine = false) →
              l'.map (fun a => if a.onLine then { a with onLine := false } else a) = l' := fun l' hl' =>
            (List.map_congr_left (g := id) fun a ha => by simp [hl' a ha]).trans (List.map_id l')
          rw [List.map_append, List.map_cons, if_pos hon, hkept l₁ h₁, hkept l₂ h₂]
        rw [hmap]
        refine ⟨⟨by simpa using hlen, fun d x => ?_, ?_⟩, ?_⟩
        · rw [List.countP_append, List.countP_cons, ← Nat.add_assoc, ← List.countP_append]
          split
          · next hdx =>
            simp only [AnswerEntry.waitsFor, Bool.not_false, Bool.and_true, decide_eq_true_eq] at hdx
            obtain ⟨rfl, rfl⟩ := hdx
            have := List.countP_eq_zero.mpr (List.any_eq_false.mp (Bool.eq_false_iff.mpr hfree))
            rw [List.countP_append, List.countP_cons] at this
            rw [List.countP_append]
            omega
          · obtain ⟨-, hw, -⟩ := herased
            exact hw d x
        · rw [List.countP_append, List.countP_cons, ← Nat.add_assoc, ← List.countP_append]
          simp [hcount]
        · rw [List.any_append, List.any_cons]
          simpa using ⟨h₁, h₂⟩

/-! ### The four bounds under the acts -/

theorem answersBounded_iff (s : State) :
    answersBounded s ↔ queueBounded s.answers ∧
      (s.answers.any (·.onLine) = true → s.tu.state ≠ .wait ∧ s.tu.buffer.map (·.owner) = some .answer) :=
  ⟨fun ⟨h1, h2, h3, h4⟩ => ⟨⟨h1, h2, h3⟩, h4⟩, fun ⟨⟨h1, h2, h3⟩, h4⟩ => ⟨h1, h2, h3, h4⟩⟩

theorem answersBounded_of_nil {s : State} (h : s.answers = []) : answersBounded s := by simp [answersBounded, h]

theorem Act.keeps_answersBounded {s t : State} (h : Act s t) (hwork : noWorkOutside s) (hs : answersBounded s) :
    answersBounded t := by
  have hsame : t.answers = s.answers → (t.tu.state = .wait → s.tu.state = .wait) → t.tu.buffer = s.tu.buffer → answersBounded t := by
    intro hans hst hbuf
    unfold answersBounded
    rw [hans, hbuf]
    obtain ⟨h1, h2, h3, h4⟩ := hs
    exact ⟨h1, h2, h3, fun h => ⟨fun hw => (h4 h).1 (hst hw), (h4 h).2⟩⟩
  obtain ⟨hq, hon⟩ := (answersBounded_iff s).mp hs
  have hnone : s.tu.state = .wait → s.answers.any (·.onLine) = false := fun hw =>
    Bool.eq_false_iff.mpr fun h => (hon h).1 hw
  cases h with
  | transmit u hu =>
    obtain ⟨hbuf, hst, -⟩ := hu
    exact hsame rfl hst.mp hbuf
  | stop u _ howner =>
    refine (answersBounded_iff _).mpr ⟨hq, fun h => absurd (hon h).2 howner⟩
  | stopAnswer u isSent _ _ =>
    obtain ⟨hb, hoff⟩ := queueBounded_queueAfterResult hq isSent
    exact (answersBounded_iff _).mpr ⟨hb, fun h => absurd h (by simp [hoff])⟩
  | begin o hw _ _ =>
    exact (answersBounded_iff _).mpr ⟨hq, fun h => absurd h (by simp [hnone hw])⟩
  | beginAnswer o hw _ ho =>
    exact (answersBounded_iff _).mpr ⟨queueBounded_markOldest hq (hnone hw), fun _ => ⟨by simp [TransmitUnit.begin],
      by simp [TransmitUnit.begin, ho]⟩⟩
  | become st hst => exact answersBounded_of_nil (by simpa using (hwork hst).1)
  | teardown st cause _ _ => exact answersBounded_of_nil (State.teardown_answers _ _)
  | answer p x c n _ =>
    unfold State.answer
    split
    · next hroom =>
      have hroom : s.answers.any (·.waitsFor p x) = true ∨ s.answers.length < 8 := by
        simpa [State.answerRoom, Config.answerCap] using hroom
      obtain ⟨hb, hmarks⟩ := queueBounded_placeInQueue c n hroom hq
      exact (answersBounded_iff _).mpr ⟨hb, fun h => hon (hmarks ▸ h)⟩
    · exact hs
  | _ => exact hsame (by simp) (by simp) (by simp)

/-! #### The lane -/

theorem Lane.consistent_loaded (k : SlotId) (g : GroupId) (q : Seq) {roster : StationSet} (h : roster ≠ 0) :
    (Lane.loaded k g q roster).consistent := ⟨by simp [Lane.loaded], by simp [Lane.loaded], by simp [Lane.loaded], by simp [Lane.loaded], h⟩

theorem laneConsistent_iff (s : State) :
    laneConsistent s ↔ (∀ l, s.gu.lane = some l → l.consistent) ∧ (s.mu.station = .member → s.gu.lane = none → s.gu.waiting = []) :=
  Iff.rfl

theorem laneConsistent_of_gu {s t : State} (hgu : t.gu = s.gu) (hmu : t.mu.station = s.mu.station) (hs : laneConsistent s) :
    laneConsistent t := by
  unfold laneConsistent
  rwa [hgu, hmu]

/-- The load leaves a loaded lane, or an IDLE one with nothing waiting (R146). -/
theorem laneConsistent_loadFrom (l : List SlotId) : ∀ s : State, s.gu.lane = none → laneConsistent (s.loadFrom l) := by
  induction l with
  | nil => exact fun s hl => ⟨fun l h => absurd (hl.symm.trans h) (by simp), fun _ _ => rfl⟩
  | cons k rest ih =>
    intro s hl
    unfold State.loadFrom
    split
    · exact ih _ (by simpa using hl)
    · next hroster =>
      refine ⟨fun l h => ?_, fun _ h => ?_⟩
      · simp only [State.loadLane, Option.some.injEq] at h
        exact h ▸ Lane.consistent_loaded _ _ _ hroster
      · simp [State.loadLane] at h

theorem laneConsistent_load {s : State} (hst : s.mu.station = .member) (hs : ∀ l, s.gu.lane = some l → l.consistent) :
    laneConsistent s.load := by
  unfold State.load
  split
  · next h => exact laneConsistent_loadFrom _ s h.1
  · next h => exact (laneConsistent_iff s).mpr ⟨hs, fun _ hl => absurd ⟨hl, hst⟩ h⟩

theorem Act.keeps_laneConsistent {s t : State} (h : Act s t) (hwork : noWorkOutside s) (hs : laneConsistent s) :
    laneConsistent t := by
  have hmember : ∀ {l}, s.gu.lane = some l → s.mu.station = .member := fun hl => by
    by_contra hst
    exact absurd (hl.symm.trans (hwork hst).2.1) (by simp)
  obtain ⟨hlane, hidle⟩ := hs
  cases h with
  | flags mu hst _ _ => exact laneConsistent_of_gu (s := s) rfl hst ⟨hlane, hidle⟩
  | become st hst =>
    obtain ⟨-, hl, hw⟩ := hwork hst
    exact ⟨fun l h => absurd (h.symm.trans (by simpa using hl)) (by simp), fun _ _ => by simpa using hw⟩
  | teardown st cause _ _ =>
    obtain ⟨hl, hw⟩ := State.teardown_gu (s.become st) cause
    exact ⟨fun l h => absurd (h.symm.trans hl) (by simp), fun _ _ => hw⟩
  | lane l l' hl _ hcons =>
    refine ⟨fun l₁ h => ?_, fun _ h => by simp at h⟩
    cases h
    exact hcons (hlane l hl)
  | endLane l l' code cause hl _ =>
    exact laneConsistent_load (by simpa using hmember hl) fun l₁ h => by simp [State.endLane] at h
  | postGroup k g urgent payload _ hst =>
    exact laneConsistent_load (by simpa using hst) fun l h => hlane l (by simpa using h)
  | withdraw k =>
    rcases s.gu_withdraw k with hgu | hgu
    · exact laneConsistent_of_gu hgu (by simp) ⟨hlane, hidle⟩
    · unfold laneConsistent
      rw [hgu]
      exact ⟨hlane, fun hst hl => by rw [hidle (by simpa using hst) hl]; rfl⟩
  | _ => exact laneConsistent_of_gu (by simp) (by simp) ⟨hlane, hidle⟩

/-! #### The sessions -/

/-- The bounds of one session (R99, R100, R108, R115). -/
def TxSession.bounded (cfg : ConfigBlock) (x : TxSession) : Prop :=
  x.window.length ≤ cfg.window ∧ runsFrom x.oldest x.window ∧ x.nextSeq = x.oldest + Fin.ofNat 8 x.window.length ∧
    (x.state = .opening → x.window = [] ∧ x.waiting ≠ []) ∧ x.retry ≤ cfg.retryLimit ∧ x.hold ≤ 15

theorem sessionsBounded_iff (s : State) : sessionsBounded s ↔ ∀ p x, s.tx p = some x → x.bounded s.cfg := Iff.rfl

theorem seq_add_succ (o : Seq) (n : Nat) : o + Fin.ofNat 8 (n + 1) = o + 1 + Fin.ofNat 8 n := by
  apply Fin.ext
  simp only [Fin.val_add, Fin.val_ofNat]
  omega

theorem seq_add_zero (o : Seq) : o + Fin.ofNat 8 0 = o := by
  apply Fin.ext
  simp only [Fin.val_add, Fin.val_ofNat]
  omega

theorem runsFrom_append {o : Seq} {l : List WindowEntry} (k : SlotId) (h : runsFrom o l) :
    runsFrom o (l ++ [⟨k, o + Fin.ofNat 8 l.length⟩]) := by
  induction l generalizing o with
  | nil => exact ⟨seq_add_zero o, trivial⟩
  | cons e rest ih =>
    obtain ⟨he, hrest⟩ := h
    refine ⟨he, ?_⟩
    rw [List.length_cons, seq_add_succ]
    exact ih hrest

theorem runsFrom_drop {o : Seq} {l : List WindowEntry} (n : Nat) (h : runsFrom o l) : runsFrom (o + Fin.ofNat 8 n) (l.drop n) := by
  induction n generalizing o l with
  | zero =>
    rw [seq_add_zero]
    exact h
  | succ n ih =>
    cases l with
    | nil => exact trivial
    | cons e rest =>
      rw [seq_add_succ]
      exact ih h.2

/-- The oldest sequence of a window that runs on from `o` is `o`, or the next sequence if it is empty (R100). -/
theorem TxSession.oldest_of_runsFrom {x : TxSession} {o : Seq} (h : runsFrom o x.window)
    (hnext : x.nextSeq = o + Fin.ofNat 8 x.window.length) : x.oldest = o := by
  unfold TxSession.oldest
  cases hw : x.window with
  | nil =>
    rw [hnext, hw]
    exact seq_add_zero o
  | cons e rest =>
    rw [hw] at h
    exact h.1

/-- A session whose window runs on from some sequence up to the next sequence is within the bounds that the rest of it keeps. -/
theorem TxSession.bounded_of_runsFrom {cfg : ConfigBlock} {x : TxSession} {o : Seq} (hlen : x.window.length ≤ cfg.window)
    (h : runsFrom o x.window) (hnext : x.nextSeq = o + Fin.ofNat 8 x.window.length)
    (hopening : x.state = .opening → x.window = [] ∧ x.waiting ≠ []) (hretry : x.retry ≤ cfg.retryLimit) (hhold : x.hold ≤ 15) :
    x.bounded cfg := by
  have ho := TxSession.oldest_of_runsFrom h hnext
  exact ⟨hlen, by rwa [ho], by rw [ho, hnext], hopening, hretry, hhold⟩

theorem TxSession.bounded_of_edited {cfg : ConfigBlock} {x y : TxSession} (h : x.edited cfg.retryLimit y) (hx : x.bounded cfg) :
    y.bounded cfg := by
  obtain ⟨hst, hw, hwin, hseq, hr, hh⟩ := h
  obtain ⟨hlen, hruns, hnext, hopening, hretry, hhold⟩ := hx
  refine TxSession.bounded_of_runsFrom (o := x.oldest) ?_ ?_ ?_ ?_ (hr hretry) (hh hhold)
  · rwa [hwin]
  · rwa [hwin]
  · rwa [hseq, hwin]
  · rwa [hst, hwin, hw]

theorem NextSession.bounded {cfg : ConfigBlock} {a b : Option TxSession} (h : NextSession cfg.retryLimit cfg.window a b)
    (ha : ∀ x, a = some x → x.bounded cfg) : ∀ y, b = some y → y.bounded cfg := by
  intro y hy
  cases h with
  | gone => cases hy
  | edited x y' hedit =>
    cases hy
    exact TxSession.bounded_of_edited hedit (ha x rfl)
  | opened x hst =>
    cases hy
    exact ⟨Nat.zero_le _, trivial, rfl, nofun, Nat.zero_le _, Nat.zero_le _⟩
  | acknowledged x y' n hst hn hedit =>
    cases hy
    obtain ⟨hlen, hruns, hnext, hopening, hretry, hhold⟩ := ha x rfl
    refine TxSession.bounded_of_edited hedit (TxSession.bounded_of_runsFrom (o := x.oldest + Fin.ofNat 8 n) ?_ (runsFrom_drop n hruns)
      ?_ (fun h => absurd (hst.symm.trans h) (by simp)) hretry hhold)
    · show (x.window.drop n).length ≤ cfg.window
      rw [List.length_drop]
      omega
    · show x.nextSeq = _
      rw [hnext]
      apply Fin.ext
      simp only [Fin.val_add, Fin.val_ofNat, List.length_drop]
      omega
  | reopened x l hl =>
    cases hy
    exact ⟨Nat.zero_le _, trivial, (seq_add_zero _).symm, fun _ => ⟨rfl, hl⟩, Nat.zero_le _, Nat.zero_le _⟩
  | entered x w rest hst hw hroom =>
    cases hy
    obtain ⟨hlen, hruns, hnext, hopening, hretry, hhold⟩ := ha x rfl
    refine TxSession.bounded_of_runsFrom (o := x.oldest) ?_ ?_ ?_ (fun h => absurd (hst.symm.trans h) (by simp)) hretry hhold
    · simpa [TxSession.entered] using hroom
    · show runsFrom x.oldest (x.window ++ [⟨w.slot, x.nextSeq⟩])
      rw [hnext]
      exact runsFrom_append w.slot hruns
    · show x.nextSeq + 1 = x.oldest + Fin.ofNat 8 (x.window ++ [_]).length
      rw [hnext]
      apply Fin.ext
      simp only [Fin.val_add, Fin.val_ofNat, List.length_append, List.length_singleton, Fin.val_one]
      omega
  | rewaits x l hl =>
    cases hy
    obtain ⟨hlen, hruns, hnext, hopening, hretry, hhold⟩ := ha x rfl
    exact ⟨hlen, hruns, hnext, fun hst => ⟨(hopening hst).1, hl hst⟩, hretry, hhold⟩
  | created k =>
    cases hy
    exact ⟨Nat.zero_le _, trivial, rfl, fun _ => ⟨rfl, by simp [newSession]⟩, Nat.zero_le _, Nat.zero_le _⟩

/-- The configuration block changes in DETACHED alone, to a block within its ranges (R169). -/
theorem Act.cfg {s t : State} (h : Act s t) :
    t.cfg = s.cfg ∨ s.mu.station = .detached ∧ ∃ a b d e f, configArgs a b d e f = some t.cfg := by
  cases h with
  | configure c a b d e f hst hc => exact .inr ⟨hst, a, b, d, e, f, hc⟩
  | _ => exact .inl (by simp)

theorem Act.keeps_sessionsBounded {s t : State} (h : Act s t) (hno : noSessionsOutside s) (hs : sessionsBounded s) :
    sessionsBounded t := by
  rw [sessionsBounded_iff] at hs ⊢
  intro q y hy
  have hkept : s.tx q = some y → y.bounded t.cfg := fun hx => by
    rcases h.cfg with hcfg | ⟨hst, -⟩
    · exact hcfg ▸ hs q y hx
    · exact absurd (hno.member hx) (by simp [hst])
  cases h.peerMove with
  | same hp => exact hkept (State.tx_congr hp q ▸ hy)
  | session p z hp _ hcfg hnext _ =>
    rw [State.tx_congr hp, State.tx, State.peer_withTx] at hy
    split at hy
    · next hq =>
      subst hq
      rw [hcfg]
      exact hnext.bounded (fun x hx => hs q x hx) y hy
    · exact hkept hy
  | presence p pr groups _ _ ht =>
    refine hkept ?_
    rw [ht, State.tx, State.peer_withPresence] at hy
    split at hy
    · next hq => subst hq; exact hy
    · exact hy
  | rx p e _ ht =>
    refine hkept ?_
    rw [ht, State.tx, State.peer_withRx] at hy
    split at hy
    · next hq => subst hq; exact hy
    · exact hy
  | lastGroup p e ht =>
    refine hkept ?_
    rw [ht, State.tx, State.peer_withLastGroup] at hy
    split at hy
    · next hq => subst hq; exact hy
    · exact hy
  | clearPeers _ ht =>
    refine hkept ?_
    rw [ht, State.tx, State.peer_clearPeers] at hy
    split at hy <;> exact hy
  | teardown st cause ht =>
    rw [ht, State.tx, (noSessions_teardown (s.become st) cause q).1] at hy
    cases hy

theorem configInRange_of_configArgs {s : State} {a b d e f : Byte} (h : configArgs a b d e f = some s.cfg) : configInRange s := by
  unfold configArgs at h
  split at h
  · next hrange =>
    unfold configInRange
    rw [← Option.some.inj h]
    exact hrange
  · cases h

theorem Act.keeps_configInRange {s t : State} (h : Act s t) (hs : configInRange s) : configInRange t := by
  rcases h.cfg with hcfg | ⟨-, a, b, d, e, f, hc⟩
  · unfold configInRange
    rwa [hcfg]
  · exact configInRange_of_configArgs hc

/-! ### The step -/

/-- What the bounds of the work need of the station state: outside MEMBER there is none. -/
def noneOutside (s : State) : Prop := noSessionsOutside s ∧ noWorkOutside s

theorem Act.keeps_noneOutside {s t : State} (h : Act s t) (hs : noneOutside s) : noneOutside t :=
  ⟨h.keeps_noSessionsOutside hs.1, h.keeps_noWorkOutside hs.2⟩

theorem noneOutside_of_fields {s t : State} (hst : t.mu.station = s.mu.station) (hans : t.answers = s.answers) (hgu : t.gu = s.gu)
    (hpeers : ∀ q, (t.peer q).tx = (s.peer q).tx ∧ (t.peer q).rx = (s.peer q).rx) (hs : noneOutside s) : noneOutside t := by
  obtain ⟨hno, hwork⟩ := hs
  unfold noneOutside noSessionsOutside noWorkOutside
  rw [hst, hans, hgu]
  refine ⟨fun h q => ?_, hwork⟩
  obtain ⟨htx, hrx⟩ := hpeers q
  rw [htx, hrx]
  exact hno h q

theorem State.held_withPresence (s : State) (p q : StationId) (pr : Presence) (groups : GroupSet) (n : Nat) :
    ((s.withPresence p pr groups n).peer q).tx = (s.peer q).tx ∧ ((s.withPresence p pr groups n).peer q).rx = (s.peer q).rx := by
  rw [State.peer_withPresence]
  split
  · next hq => subst hq; exact ⟨rfl, rfl⟩
  · exact ⟨rfl, rfl⟩

theorem State.held_ageOne (s : State) (p q : StationId) :
    ((s.ageOne p).peer q).tx = (s.peer q).tx ∧ ((s.ageOne p).peer q).rx = (s.peer q).rx := by
  rw [State.peer_ageOne]
  split
  · next hq =>
    subst hq
    split <;> exact ⟨rfl, rfl⟩
  · exact ⟨rfl, rfl⟩

/-- An invariant that reads the work for the line alone, kept by every act outside whose station state no work exists. -/
theorem step_keeps_work {I : State → Prop} (hact : ∀ {s t}, Act s t → noneOutside s → I s → I t)
    (hfields : ∀ {s t : State}, t.tu = s.tu → t.mu = s.mu → t.answers = s.answers → t.gu = s.gu → t.cfg = s.cfg →
      (∀ q, (t.peer q).tx = (s.peer q).tx) → I s → I t)
    {s t : State} (hresets : ∀ cfg reply port low addr rate pending, (cfg = s.cfg ∨ cfg = .default) →
      I (.blocksReset cfg reply port low addr rate pending)) (h : step s = .next t) (hwork : workOnlyInMember s) (hs : I s) :
    I t := by
  have hmember := (workOnlyInMember_iff s).mp hwork
  refine (step_keeps_of_acts (I := fun s => noneOutside s ∧ I s) (fun h hs => ⟨h.keeps_noneOutside hs.1, hact h hs.1 hs.2⟩)
    (fun s p _ hs => ⟨?_, ?_⟩) (fun s p hs => ⟨?_, ?_⟩) (fun h hs => ⟨?_, ?_⟩) (fun cfg reply port low addr rate pending hcfg => ?_)
    h ⟨⟨hmember.1, hmember.2.1⟩, hs⟩).2
  · exact noneOutside_of_fields (s := s) rfl rfl rfl (fun q => s.held_withPresence p q _ _ _) hs.1
  · exact hfields (s := s) rfl rfl rfl rfl rfl (fun q => (s.held_withPresence p q _ _ _).1) hs.2
  · exact noneOutside_of_fields (by simp) (by simp) (by simp) (fun q => s.held_ageOne p q) hs.1
  · exact hfields (by simp) (by simp) (by simp) (by simp) (by simp) (fun q => (s.held_ageOne p q).1) hs.2
  · obtain ⟨-, -, hmu, hpeers, hans, hgu, -⟩ := h.line
    exact noneOutside_of_fields (by rw [hmu]) hans hgu (fun q => by rw [State.peer_congr hpeers]; exact ⟨rfl, rfl⟩) hs.1
  · obtain ⟨-, htu, hmu, hpeers, hans, hgu, hcfg⟩ := h.line
    exact hfields htu hmu hans hgu hcfg (fun q => by rw [State.peer_congr hpeers]) hs.2
  · obtain ⟨hno, hw, -⟩ := (workOnlyInMember_iff _).mp (peers_of_blocksReset cfg reply port low addr rate pending).2
    exact ⟨⟨hno, hw⟩, hresets cfg reply port low addr rate pending hcfg⟩

/-- At the reset values there is no work, and the work is within its bounds. -/
theorem work_of_blocksReset (cfg : ConfigBlock) (reply : Reply) (port : Port) (low : Bool) (addr : StationId) (rate : Fin 4)
    (pending : List Instr) :
    answersBounded (.blocksReset cfg reply port low addr rate pending) ∧
    laneConsistent (.blocksReset cfg reply port low addr rate pending) ∧
    sessionsBounded (.blocksReset cfg reply port low addr rate pending) := by
  refine ⟨answersBounded_of_nil rfl, ⟨nofun, fun _ _ => rfl⟩, fun q x hx => ?_⟩
  rw [State.tx, State.peer_blocksReset] at hx
  cases hx

/-- Settles O52: each act keeps each bound, where no work exists outside MEMBER. -/
theorem workInvariants : Obligations.WorkInvariants := by
  intro s t h hwork
  refine ⟨?_, ?_, ?_, ?_⟩
  · refine step_keeps_work (I := answersBounded) (fun h hno => h.keeps_answersBounded hno.2)
      (fun htu _ hans _ _ _ hs => ?_) (fun _ _ _ _ _ _ _ _ => (work_of_blocksReset ..).1) h hwork
    unfold answersBounded
    rwa [hans, htu]
  · exact step_keeps_work (I := laneConsistent) (fun h hno => h.keeps_laneConsistent hno.2)
      (fun _ hmu _ hgu _ _ hs => laneConsistent_of_gu hgu (by rw [hmu]) hs)
      (fun _ _ _ _ _ _ _ _ => (work_of_blocksReset ..).2.1) h hwork
  · refine step_keeps_work (I := sessionsBounded) (fun h hno => h.keeps_sessionsBounded hno.1)
      (fun _ _ _ _ hcfg htx hs q x hx => ?_) (fun _ _ _ _ _ _ _ _ => (work_of_blocksReset ..).2.2) h hwork
    rw [hcfg]
    exact hs q x ((htx q).symm.trans hx)
  · intro hs
    refine step_keeps_work (I := configInRange) (fun h _ => h.keeps_configInRange) (fun _ _ _ _ hcfg _ hs => ?_)
      (fun cfg _ _ _ _ _ _ hcfg => ?_) h hwork hs
    · unfold configInRange
      rwa [hcfg]
    · rcases hcfg with rfl | rfl
      · exact hs
      · simp [configInRange, State.blocksReset, ConfigBlock.default]

end Sys2Proof.Machine
end

section
/-!
PROOFS. O53: every posted parcel without an outcome is held in one place. The holders are read as two lists of slots, each with the
station whose session holds it, and every act moves slots between the lists as it moves them between the states of Table 5-1.
-/
namespace Sys2Proof.Machine

open Sys2Proof Sys2Proof.Safety

/-! ### Holdings -/

/-- A slot with its holder: the session to a station, or the Group Unit. -/
abbrev Holding := SlotId × Option StationId

/-- The holder is the one that the destination names. -/
def holderNamed : Option StationId → Option Dest → Prop
  | some p, d => d = some (.station p)
  | none, d => ∃ g, d = some (.group g)

/-- The WAITING slots are those of the first list, the IN-FLIGHT slots those of the second, each once and with the holder its
destination names. -/
structure HeldIn (s : State) (w f : List Holding) : Prop where
  waiting : ∀ k, (w.map (·.1)).count k = if isWaiting (s.slot k) then 1 else 0
  flight : ∀ k, (f.map (·.1)).count k = if isInFlight (s.slot k) then 1 else 0
  named : ∀ e ∈ w ++ f, holderNamed e.2 (destOf (s.slot e.1))

theorem HeldIn.perm {s : State} {w w' f f' : List Holding} (h : HeldIn s w f) (hw : w.Perm w') (hf : f.Perm f') :
    HeldIn s w' f' :=
  ⟨fun k => ((hw.map _).count_eq k) ▸ h.waiting k, fun k => ((hf.map _).count_eq k) ▸ h.flight k,
    fun e he => h.named e ((hw.append hf).mem_iff.mpr he)⟩

/-- Two states of a slot that are one for its holder. -/
def sameForHolder (a b : Slot) : Prop :=
  isWaiting b = isWaiting a ∧ isInFlight b = isInFlight a ∧ (isWaiting a = true ∨ isInFlight a = true → destOf b = destOf a)

theorem HeldIn.kind {s : State} {w f : List Holding} (h : HeldIn s w f) {e : Holding} (he : e ∈ w ++ f) :
    isWaiting (s.slot e.1) = true ∨ isInFlight (s.slot e.1) = true := by
  rcases List.mem_append.mp he with he | he
  · exact .inl (kind_of_mem_of_count_eq h.waiting (List.mem_map_of_mem he))
  · exact .inr (kind_of_mem_of_count_eq h.flight (List.mem_map_of_mem he))

theorem HeldIn.congr {s t : State} {w f : List Holding} (h : HeldIn s w f) (hslot : ∀ k, sameForHolder (s.slot k) (t.slot k)) :
    HeldIn t w f := by
  refine ⟨fun k => ?_, fun k => ?_, fun e he => ?_⟩
  · rw [(hslot k).1]
    exact h.waiting k
  · rw [(hslot k).2.1]
    exact h.flight k
  · rw [(hslot e.1).2.2 (h.kind he)]
    exact h.named e he

theorem sameForHolder_refl (a : Slot) : sameForHolder a a := ⟨rfl, rfl, fun _ => rfl⟩

theorem HeldIn.not_both {s : State} {k : SlotId} (hw : isWaiting (s.slot k) = true) : isInFlight (s.slot k) = false := by
  obtain ⟨c, hc⟩ := isWaiting_iff.mp hw
  simp [hc, isInFlight]

/-- The head of the first list is WAITING and stands in neither list again. -/
theorem HeldIn.head_waiting {s : State} {k : SlotId} {h : Option StationId} {w f : List Holding} (hs : HeldIn s ((k, h) :: w) f) :
    isWaiting (s.slot k) = true ∧ (w.map (·.1)).count k = 0 ∧ (f.map (·.1)).count k = 0 := by
  have hk := hs.waiting k
  rw [List.map_cons, List.count_cons_self] at hk
  have hw : isWaiting (s.slot k) = true := by
    by_contra hnot
    rw [if_neg hnot] at hk
    omega
  rw [if_pos hw] at hk
  have hf := hs.flight k
  rw [HeldIn.not_both hw] at hf
  exact ⟨hw, by omega, hf⟩

/-- The head of the second list is IN-FLIGHT and stands in neither list again. -/
theorem HeldIn.head_flight {s : State} {k : SlotId} {h : Option StationId} {w f : List Holding} (hs : HeldIn s w ((k, h) :: f)) :
    isInFlight (s.slot k) = true ∧ (w.map (·.1)).count k = 0 ∧ (f.map (·.1)).count k = 0 := by
  have hk := hs.flight k
  rw [List.map_cons, List.count_cons_self] at hk
  have hf : isInFlight (s.slot k) = true := by
    by_contra hnot
    rw [if_neg hnot] at hk
    omega
  rw [if_pos hf] at hk
  have hw := hs.waiting k
  have hnot : isWaiting (s.slot k) = false := Bool.eq_false_iff.mpr fun hw => by simp [HeldIn.not_both hw] at hf
  rw [hnot] at hw
  exact ⟨hf, hw, by omega⟩

theorem ne_of_count_eq_zero {l : List Holding} {k : SlotId} (h : (l.map (·.1)).count k = 0) {e : Holding} (he : e ∈ l) :
    e.1 ≠ k := fun heq => List.count_eq_zero.mp h (heq ▸ List.mem_map_of_mem he)

/-- Slot `k` changes to a state of Table 5-1 that is neither WAITING nor IN-FLIGHT, and stands in neither list then. -/
theorem HeldIn.released {s t : State} {k : SlotId} {w f : List Holding} (hother : ∀ j, j ≠ k → t.slot j = s.slot j)
    (hwait : isWaiting (t.slot k) = false) (hfly : isInFlight (t.slot k) = false)
    (hw : ∀ j, j ≠ k → (w.map (·.1)).count j = if isWaiting (s.slot j) then 1 else 0)
    (hf : ∀ j, j ≠ k → (f.map (·.1)).count j = if isInFlight (s.slot j) then 1 else 0)
    (hwk : (w.map (·.1)).count k = 0) (hfk : (f.map (·.1)).count k = 0)
    (hnamed : ∀ e ∈ w ++ f, holderNamed e.2 (destOf (s.slot e.1))) : HeldIn t w f := by
  refine ⟨fun j => ?_, fun j => ?_, fun e he => ?_⟩
  · by_cases hj : j = k
    · rw [hj, hwk, hwait]
      rfl
    · rw [hother j hj, hw j hj]
  · by_cases hj : j = k
    · rw [hj, hfk, hfly]
      rfl
    · rw [hother j hj, hf j hj]
  · have hne : e.1 ≠ k := (List.mem_append.mp he).elim (ne_of_count_eq_zero hwk) (ne_of_count_eq_zero hfk)
    rw [hother _ hne]
    exact hnamed e he

theorem HeldIn.counts_tail {k : SlotId} {h : Option StationId} {l : List Holding} {kind : SlotId → Bool}
    (hl : ∀ j, (((k, h) :: l).map (·.1)).count j = if kind j then 1 else 0) {j : SlotId} (hj : j ≠ k) :
    (l.map (·.1)).count j = if kind j then 1 else 0 := by
  have := hl j
  rwa [List.map_cons, List.count_cons_of_ne (Ne.symm hj)] at this

theorem HeldIn.counts_cons {k : SlotId} {h : Option StationId} {l : List Holding} {n : Nat} {j : SlotId} (hj : j ≠ k)
    (hl : (l.map (·.1)).count j = n) : (((k, h) :: l).map (·.1)).count j = n := by
  rwa [List.map_cons, List.count_cons_of_ne (Ne.symm hj)]

/-- A WAITING parcel that gets its outcome leaves the first list (R92). -/
theorem HeldIn.settle_waiting {s : State} {k : SlotId} {h : Option StationId} {w f : List Holding}
    (hs : HeldIn s ((k, h) :: w) f) (o : ParcelOutcome) : HeldIn (s.setOutcome k o) w f := by
  obtain ⟨hk, hwk, hfk⟩ := hs.head_waiting
  obtain ⟨c, hc⟩ := isWaiting_iff.mp hk
  refine HeldIn.released (s := s) (k := k) (fun j hj => by rw [State.slot_setOutcome, if_neg hj]) ?_ ?_
    (fun j hj => HeldIn.counts_tail hs.waiting hj) (fun j _ => hs.flight j) hwk hfk fun e he => hs.named e ?_
  · rw [State.slot_setOutcome, if_pos rfl, hc]
    rfl
  · rw [State.slot_setOutcome, if_pos rfl, hc]
    rfl
  · exact List.mem_cons_of_mem _ he

/-- An IN-FLIGHT parcel that gets its outcome leaves the second list (R92). -/
theorem HeldIn.settle_flight {s : State} {k : SlotId} {h : Option StationId} {w f : List Holding}
    (hs : HeldIn s w ((k, h) :: f)) (o : ParcelOutcome) : HeldIn (s.setOutcome k o) w f := by
  obtain ⟨hk, hwk, hfk⟩ := hs.head_flight
  obtain ⟨c, hc⟩ := isInFlight_iff.mp hk
  refine HeldIn.released (s := s) (k := k) (fun j hj => by rw [State.slot_setOutcome, if_neg hj]) ?_ ?_
    (fun j _ => hs.waiting j) (fun j hj => HeldIn.counts_tail hs.flight hj) hwk hfk fun e he => hs.named e ?_
  · rw [State.slot_setOutcome, if_pos rfl, hc]
    rfl
  · rw [State.slot_setOutcome, if_pos rfl, hc]
    rfl
  · rcases List.mem_append.mp he with he | he
    · exact List.mem_append_left _ he
    · exact List.mem_append_right _ (List.mem_cons_of_mem _ he)

theorem HeldIn.settle_all_waiting {s : State} {l : List (SlotId × ParcelOutcome)} {h : Option StationId} {w f : List Holding}
    (hs : HeldIn s (l.map (fun d => (d.1, h)) ++ w) f) : HeldIn (s.settleAll l) w f := by
  induction l generalizing s with
  | nil => exact hs
  | cons d l ih =>
    rw [State.settleAll_cons]
    exact ih (HeldIn.settle_waiting (k := d.1) (h := h) hs d.2)

theorem HeldIn.settle_all_flight {s : State} {l : List (SlotId × ParcelOutcome)} {h : Option StationId} {w f : List Holding}
    (hs : HeldIn s w (l.map (fun d => (d.1, h)) ++ f)) : HeldIn (s.settleAll l) w f := by
  induction l generalizing s with
  | nil => exact hs
  | cons d l ih =>
    rw [State.settleAll_cons]
    exact ih (HeldIn.settle_flight (k := d.1) (h := h) hs d.2)

/-- A WAITING parcel that goes IN-FLIGHT moves from the first list to the second (R109, R146). -/
theorem HeldIn.to_flight {s : State} {k : SlotId} {h : Option StationId} {w f : List Holding} (hs : HeldIn s ((k, h) :: w) f) :
    HeldIn (s.toInFlight k) w ((k, h) :: f) := by
  obtain ⟨hk, hwk, hfk⟩ := hs.head_waiting
  obtain ⟨c, hc⟩ := isWaiting_iff.mp hk
  have hself : (s.toInFlight k).slot k = .inFlight { c with sentOnce := false } := by rw [State.slot_toInFlight, if_pos rfl, hc]
  have hother : ∀ j, j ≠ k → (s.toInFlight k).slot j = s.slot j := fun j hj => by rw [State.slot_toInFlight, if_neg hj]
  refine ⟨fun j => ?_, fun j => ?_, fun e he => ?_⟩
  · by_cases hj : j = k
    · rw [hj, hwk, hself]
      rfl
    · rw [hother j hj]
      exact HeldIn.counts_tail hs.waiting hj
  · by_cases hj : j = k
    · rw [hj, hself, List.map_cons, List.count_cons_self, hfk]
      rfl
    · rw [hother j hj]
      exact HeldIn.counts_cons hj (hs.flight j)
  · have hnamed := hs.named e (by
      simp only [List.mem_append, List.mem_cons] at he ⊢
      tauto)
    by_cases hj : e.1 = k
    · rw [hj, hself]
      rw [hj, hc] at hnamed
      exact hnamed
    · rw [hother _ hj]
      exact hnamed

/-- An IN-FLIGHT parcel that goes back to WAITING moves from the second list to the first (R122). -/
theorem HeldIn.to_waiting {s : State} {k : SlotId} {h : Option StationId} {w f : List Holding} (hs : HeldIn s w ((k, h) :: f)) :
    HeldIn (s.toWaiting k) ((k, h) :: w) f := by
  obtain ⟨hk, hwk, hfk⟩ := hs.head_flight
  obtain ⟨c, hc⟩ := isInFlight_iff.mp hk
  have hself : (s.toWaiting k).slot k = .waiting { c with sentOnce := false } := by rw [State.slot_toWaiting, if_pos rfl, hc]
  have hother : ∀ j, j ≠ k → (s.toWaiting k).slot j = s.slot j := fun j hj => by rw [State.slot_toWaiting, if_neg hj]
  refine ⟨fun j => ?_, fun j => ?_, fun e he => ?_⟩
  · by_cases hj : j = k
    · rw [hj, hself, List.map_cons, List.count_cons_self, hwk]
      rfl
    · rw [hother j hj]
      exact HeldIn.counts_cons hj (hs.waiting j)
  · by_cases hj : j = k
    · rw [hj, hfk, hself]
      rfl
    · rw [hother j hj]
      exact HeldIn.counts_tail hs.flight hj
  · have hnamed := hs.named e (by
      simp only [List.mem_append, List.mem_cons] at he ⊢
      tauto)
    by_cases hj : e.1 = k
    · rw [hj, hself]
      rw [hj, hc] at hnamed
      exact hnamed
    · rw [hother _ hj]
      exact hnamed

/-- A FREE slot that is filled joins the first list (R86). -/
theorem HeldIn.fill {s : State} {k : SlotId} {h : Option StationId} {w f : List Holding} (hs : HeldIn s w f)
    (hfree : s.slot k = .free) {d : Dest} (hd : holderNamed h (some d)) (urgent : Bool) (payload : List Byte) :
    HeldIn (s.fillOutbound k d urgent payload) ((k, h) :: w) f := by
  have hself : (s.fillOutbound k d urgent payload).slot k = .waiting ⟨s.ticket, d, urgent, payload, false⟩ := by
    rw [State.slot_fillOutbound, if_pos rfl]
  have hother : ∀ j, j ≠ k → (s.fillOutbound k d urgent payload).slot j = s.slot j := fun j hj => by
    rw [State.slot_fillOutbound, if_neg hj]
  have hwk := hs.waiting k
  have hfk := hs.flight k
  rw [hfree] at hwk hfk
  refine ⟨fun j => ?_, fun j => ?_, fun e he => ?_⟩
  · by_cases hj : j = k
    · rw [hj, hself, List.map_cons, List.count_cons_self, hwk]
      rfl
    · rw [hother j hj]
      exact HeldIn.counts_cons hj (hs.waiting j)
  · by_cases hj : j = k
    · rw [hj, hfk, hself]
      rfl
    · rw [hother j hj]
      exact hs.flight j
  · rcases List.mem_cons.mp he with rfl | he
    · rw [hself]
      exact hd
    · have hne : e.1 ≠ k := (List.mem_append.mp he).elim (ne_of_count_eq_zero hwk) (ne_of_count_eq_zero hfk)
      rw [hother _ hne]
      exact hs.named e he

/-! ### The holdings of a state -/

/-- The slots that wait in a session, and those in its window. -/
def waitingOf (x : Option TxSession) : List SlotId := (x.map fun x => x.waiting.map (·.slot)).getD []

@[inherit_doc waitingOf] def windowOf (x : Option TxSession) : List SlotId := (x.map fun x => x.window.map (·.slot)).getD []

/-- These slots, held by the session to `p`, or by the Group Unit. -/
def heldBy (h : Option StationId) (l : List SlotId) : List Holding := l.map fun k => (k, h)

/-- What the sessions to these stations hold, waiting or in their windows. -/
def holdingsOf (f : Option TxSession → List SlotId) (s : State) (l : List StationId) : List Holding :=
  l.flatMap fun p => heldBy (some p) (f (s.tx p))

/-- Every WAITING slot with its holder. -/
def waitingHeld (s : State) : List Holding := holdingsOf waitingOf s allStations ++ heldBy none s.gu.waiting

/-- Every IN-FLIGHT slot with its holder. -/
def flightHeld (s : State) : List Holding := holdingsOf windowOf s allStations ++ heldBy none (s.gu.lane.map (·.slot)).toList

@[simp] theorem heldBy_append (h : Option StationId) (l l' : List SlotId) : heldBy h (l ++ l') = heldBy h l ++ heldBy h l' :=
  List.map_append

@[simp] theorem heldBy_cons (h : Option StationId) (k : SlotId) (l : List SlotId) : heldBy h (k :: l) = (k, h) :: heldBy h l := rfl

@[simp] theorem heldBy_nil (h : Option StationId) : heldBy h [] = [] := rfl

theorem heldBy_perm (h : Option StationId) {l l' : List SlotId} (hl : l.Perm l') : (heldBy h l).Perm (heldBy h l') := hl.map _

theorem slots_heldBy (h : Option StationId) (l : List SlotId) : (heldBy h l).map (·.1) = l := by
  simp [heldBy, Function.comp_def]

theorem slots_holdingsOf (f : Option TxSession → List SlotId) (s : State) (l : List StationId) :
    (holdingsOf f s l).map (·.1) = l.flatMap fun p => f (s.tx p) := by
  simp [holdingsOf, List.map_flatMap, slots_heldBy]

theorem waitingRefs_eq (s : State) : (waitingHeld s).map (·.1) = waitingRefs s := by
  simp only [waitingHeld, List.map_append, slots_holdingsOf, slots_heldBy, waitingRefs]
  congr 1
  refine List.flatMap_congr fun p _ => ?_
  cases s.tx p <;> rfl

theorem flightRefs_eq (s : State) : (flightHeld s).map (·.1) = flightRefs s := by
  simp only [flightHeld, List.map_append, slots_holdingsOf, slots_heldBy, flightRefs]
  congr 1
  refine List.flatMap_congr fun p _ => ?_
  cases s.tx p <;> rfl

theorem mem_heldBy {h : Option StationId} {l : List SlotId} {e : Holding} : e ∈ heldBy h l ↔ e.1 ∈ l ∧ e.2 = h := by
  simp only [heldBy, List.mem_map]
  constructor
  · rintro ⟨k, hk, rfl⟩
    exact ⟨hk, rfl⟩
  · rintro ⟨hk, rfl⟩
    exact ⟨e.1, hk, rfl⟩

theorem mem_holdingsOf {f : Option TxSession → List SlotId} {s : State} {l : List StationId} {e : Holding} :
    e ∈ holdingsOf f s l ↔ ∃ p ∈ l, e.1 ∈ f (s.tx p) ∧ e.2 = some p := by
  simp only [holdingsOf, List.mem_flatMap, mem_heldBy]

theorem mem_waitingOf {x : Option TxSession} {k : SlotId} : k ∈ waitingOf x ↔ ∃ y, x = some y ∧ ∃ w ∈ y.waiting, w.slot = k := by
  cases x <;> simp [waitingOf]

theorem mem_windowOf {x : Option TxSession} {k : SlotId} : k ∈ windowOf x ↔ ∃ y, x = some y ∧ ∃ e ∈ y.window, e.slot = k := by
  cases x <;> simp [windowOf]

/-- A session in OPENING has an empty window (R100). -/
def openingEmpty (s : State) : Prop := ∀ p x, s.tx p = some x → x.state = .opening → x.window = []

/-- The invariant over the holdings. -/
theorem parcelsHeldOnce_iff (s : State) : parcelsHeldOnce s ↔ HeldIn s (waitingHeld s) (flightHeld s) ∧ openingEmpty s := by
  constructor
  · rintro ⟨hw, hf, hsessions, hgroup, hlane⟩
    refine ⟨⟨fun k => by rw [waitingRefs_eq]; exact hw k, fun k => by rw [flightRefs_eq]; exact hf k, fun e he => ?_⟩,
      fun p x hx => (hsessions p x hx).2.2⟩
    rcases List.mem_append.mp he with he | he
    · rcases List.mem_append.mp he with he | he
      · obtain ⟨p, -, hk, hp⟩ := mem_holdingsOf.mp he
        obtain ⟨x, hx, w, hwx, hwk⟩ := mem_waitingOf.mp hk
        rw [hp, ← hwk]
        exact (hsessions p x hx).1 w hwx
      · obtain ⟨hk, hp⟩ := mem_heldBy.mp he
        rw [hp]
        exact hgroup e.1 hk
    · rcases List.mem_append.mp he with he | he
      · obtain ⟨p, -, hk, hp⟩ := mem_holdingsOf.mp he
        obtain ⟨x, hx, w, hwx, hwk⟩ := mem_windowOf.mp hk
        rw [hp, ← hwk]
        exact (hsessions p x hx).2.1 w hwx
      · obtain ⟨hk, hp⟩ := mem_heldBy.mp he
        rw [Option.mem_toList, Option.map_eq_some_iff] at hk
        obtain ⟨l, hl, hlk⟩ := hk
        rw [hp, ← hlk]
        exact hlane l hl
  · rintro ⟨⟨hw, hf, hnamed⟩, hopening⟩
    have hstation : ∀ {f : Option TxSession → List SlotId} {p : StationId} {k : SlotId}, k ∈ f (s.tx p) →
        (k, some p) ∈ holdingsOf f s allStations := fun hk => mem_holdingsOf.mpr ⟨_, mem_allStations _, hk, rfl⟩
    refine ⟨fun k => by rw [← waitingRefs_eq]; exact hw k, fun k => by rw [← flightRefs_eq]; exact hf k,
      fun p x hx => ⟨fun w hwx => ?_, fun e he => ?_, hopening p x hx⟩, fun k hk => ?_, fun l hl => ?_⟩
    · exact hnamed (w.slot, some p) (List.mem_append_left _ (List.mem_append_left _
        (hstation (mem_waitingOf.mpr ⟨x, hx, w, hwx, rfl⟩))))
    · exact hnamed (e.slot, some p) (List.mem_append_right _ (List.mem_append_left _
        (hstation (mem_windowOf.mpr ⟨x, hx, e, he, rfl⟩))))
    · exact hnamed (k, none) (List.mem_append_left _ (List.mem_append_right _ (mem_heldBy.mpr ⟨hk, rfl⟩)))
    · exact hnamed (l.slot, none) (List.mem_append_right _ (List.mem_append_right _ (mem_heldBy.mpr ⟨by simp [hl], rfl⟩)))

/-! ### One session apart from the others -/

/-- What the sessions to the other stations hold. -/
def othersHeld (f : Option TxSession → List SlotId) (s : State) (p : StationId) : List Holding :=
  holdingsOf f s (allStations.erase p)

theorem holdingsOf_perm (f : Option TxSession → List SlotId) (s : State) (p : StationId) :
    (holdingsOf f s allStations).Perm (heldBy (some p) (f (s.tx p)) ++ othersHeld f s p) :=
  (List.perm_cons_erase (mem_allStations p)).flatMap_right _

theorem othersHeld_congr {f : Option TxSession → List SlotId} {s t : State} {p : StationId} (h : ∀ q, q ≠ p → t.tx q = s.tx q) :
    othersHeld f t p = othersHeld f s p := by
  refine List.flatMap_congr fun q hq => ?_
  rw [h q ((allStations_nodup.mem_erase_iff.mp hq).1)]

/-- The waiting holdings with the session to `p` in front. -/
theorem waitingHeld_perm (s : State) (p : StationId) :
    (waitingHeld s).Perm (heldBy (some p) (waitingOf (s.tx p)) ++ (othersHeld waitingOf s p ++ heldBy none s.gu.waiting)) := by
  rw [← List.append_assoc]
  exact (holdingsOf_perm waitingOf s p).append_right _

/-- The holdings in flight with the session to `p` in front. -/
theorem flightHeld_perm (s : State) (p : StationId) :
    (flightHeld s).Perm
      (heldBy (some p) (windowOf (s.tx p)) ++ (othersHeld windowOf s p ++ heldBy none (s.gu.lane.map (·.slot)).toList)) := by
  rw [← List.append_assoc]
  exact (holdingsOf_perm windowOf s p).append_right _

/-- The waiting holdings of the other sessions and of the Group Unit. -/
def restWaiting (s : State) (p : StationId) : List Holding := othersHeld waitingOf s p ++ heldBy none s.gu.waiting

@[inherit_doc restWaiting] def restFlight (s : State) (p : StationId) : List Holding :=
  othersHeld windowOf s p ++ heldBy none (s.gu.lane.map (·.slot)).toList

theorem tx_withTx_ne (s : State) {p q : StationId} (y : Option TxSession) (h : q ≠ p) : (s.withTx p y).tx q = s.tx q := by
  rw [State.tx, State.peer_withTx, if_neg h, State.tx]

/-- What one session's change leaves: the invariant holds after it when the holdings do, with the new session in the old one's
place. -/
theorem parcelsHeldOnce_of_session {s t : State} {p : StationId} {y : Option TxSession} (hpeers : t.peers = (s.withTx p y).peers)
    (hgu : t.gu = s.gu) (hopening : openingEmpty s) (hy : ∀ x, y = some x → x.state = .opening → x.window = [])
    (h : HeldIn t (heldBy (some p) (waitingOf y) ++ restWaiting s p) (heldBy (some p) (windowOf y) ++ restFlight s p)) :
    parcelsHeldOnce t := by
  have hself : t.tx p = y := by rw [State.tx_congr hpeers, State.tx_withTx_same]
  have hother : ∀ q, q ≠ p → t.tx q = s.tx q := fun q hq => by rw [State.tx_congr hpeers, tx_withTx_ne s y hq]
  refine (parcelsHeldOnce_iff t).mpr ⟨h.perm ?_ ?_, fun q x hx => ?_⟩
  · rw [restWaiting, ← othersHeld_congr hother, ← hself, ← hgu]
    exact (waitingHeld_perm t p).symm
  · rw [restFlight, ← othersHeld_congr hother, ← hself, ← hgu]
    exact (flightHeld_perm t p).symm
  · by_cases hq : q = p
    · rw [hq, hself] at hx
      exact hy x hx
    · exact hopening q x ((hother q hq).symm.trans hx)

/-- The holdings of a state, with the session to `p` in front. -/
theorem HeldIn.front {s : State} (h : HeldIn s (waitingHeld s) (flightHeld s)) (p : StationId) :
    HeldIn s (heldBy (some p) (waitingOf (s.tx p)) ++ restWaiting s p) (heldBy (some p) (windowOf (s.tx p)) ++ restFlight s p) :=
  h.perm (waitingHeld_perm s p) (flightHeld_perm s p)

/-- What leaves the sessions, the Group Unit's slots and the kinds of the slots alone keeps the invariant. -/
theorem parcelsHeldOnce_congr {s t : State} (htx : ∀ q, t.tx q = s.tx q) (hwaiting : t.gu.waiting = s.gu.waiting)
    (hlane : t.gu.lane.map (·.slot) = s.gu.lane.map (·.slot)) (hslot : ∀ k, sameForHolder (s.slot k) (t.slot k))
    (hs : parcelsHeldOnce s) : parcelsHeldOnce t := by
  obtain ⟨hheld, hopening⟩ := (parcelsHeldOnce_iff s).mp hs
  have hholdings : ∀ f, holdingsOf f t allStations = holdingsOf f s allStations := fun f =>
    List.flatMap_congr fun q _ => by rw [htx q]
  refine (parcelsHeldOnce_iff t).mpr ⟨?_, fun q x hx => hopening q x ((htx q).symm.trans hx)⟩
  rw [waitingHeld, flightHeld, hholdings, hholdings, hwaiting, hlane]
  exact hheld.congr hslot

/-! ### The acts on the store and on the sessions -/

theorem sameForHolder_markSent (s : State) (k j : SlotId) : sameForHolder (s.slot j) ((s.markSent k).slot j) := by
  rw [State.slot_markSent]
  split
  · next hj =>
    subst hj
    cases s.slot j <;> exact ⟨rfl, rfl, fun _ => rfl⟩
  · exact sameForHolder_refl _

theorem sameForHolder_accept {s : State} {k : SlotId} (hk : s.freeSlot = some k) (p : StationId) (origin : Origin)
    (payload : List Byte) (j : SlotId) : sameForHolder (s.slot j) ((s.accept k p origin payload).slot j) := by
  rw [State.slot_accept]
  split
  · next hj =>
    subst hj
    rw [(State.freeSlot_spec hk).1]
    exact ⟨rfl, rfl, fun h => by simp [isWaiting, isInFlight] at h⟩
  · exact sameForHolder_refl _

theorem sameForHolder_of_slots {s t : State} (h : t.slots = s.slots) (k : SlotId) : sameForHolder (s.slot k) (t.slot k) := by
  rw [State.slot_congr h]
  exact sameForHolder_refl _

theorem tx_of_peers {s t : State} (h : t.peers = s.peers) (q : StationId) : t.tx q = s.tx q := State.tx_congr h q

theorem parcelsHeldOnce_session {s : State} {p : StationId} {x y : TxSession} (hx : s.tx p = some x) (hw : y.waiting = x.waiting)
    (hwin : y.window = x.window) (hst : y.state = .opening → x.window = []) (hs : parcelsHeldOnce s) :
    parcelsHeldOnce (s.withTx p (some y)) := by
  obtain ⟨hheld, hopening⟩ := (parcelsHeldOnce_iff s).mp hs
  refine parcelsHeldOnce_of_session rfl rfl hopening (fun z hz h => ?_) ?_
  · cases hz
    rw [hwin]
    exact hst h
  · have := hheld.front p
    rw [hx] at this
    have hsame : waitingOf (some y) = waitingOf (some x) ∧ windowOf (some y) = windowOf (some x) := by
      simp [waitingOf, windowOf, hw, hwin]
    rw [hsame.1, hsame.2]
    exact this.congr fun k => sameForHolder_refl _

/-- Outcomes set for slots in list order, as one settlement. -/
theorem State.setOutcomes_eq_settleAll (s : State) (l : List SlotId) (o : SlotId → ParcelOutcome) :
    s.setOutcomes l o = s.settleAll (l.map fun k => (k, o k)) := by
  simp only [State.setOutcomes, State.settleAll, List.foldl_map]

theorem heldBy_eq_map (h : Option StationId) (l : List SlotId) (o : SlotId → ParcelOutcome) :
    heldBy h l = (l.map fun k => (k, o k)).map fun d => (d.1, h) := by
  simp [heldBy, Function.comp_def]

theorem HeldIn.setOutcomes_flight {s : State} {l : List SlotId} {h : Option StationId} {w f : List Holding}
    (hs : HeldIn s w (heldBy h l ++ f)) (o : SlotId → ParcelOutcome) : HeldIn (s.setOutcomes l o) w f := by
  rw [State.setOutcomes_eq_settleAll]
  exact HeldIn.settle_all_flight (h := h) (heldBy_eq_map h l o ▸ hs)

theorem HeldIn.setOutcomes_waiting {s : State} {l : List SlotId} {h : Option StationId} {w f : List Holding}
    (hs : HeldIn s (heldBy h l ++ w) f) (o : SlotId → ParcelOutcome) : HeldIn (s.setOutcomes l o) w f := by
  rw [State.setOutcomes_eq_settleAll]
  exact HeldIn.settle_all_waiting (h := h) (heldBy_eq_map h l o ▸ hs)

/-- Writing a session leaves the slots, and so what they say of their holders. -/
theorem HeldIn.withTx {s : State} {w f : List Holding} (hs : HeldIn s w f) (p : StationId) (y : Option TxSession) :
    HeldIn (s.withTx p y) w f := hs.congr fun _ => sameForHolder_refl _

theorem parcelsHeldOnce_acknowledge {s : State} {p : StationId} {x y : TxSession} (n : Nat) (o : SlotId → ParcelOutcome)
    (hx : s.tx p = some x) (hst : x.state = .opened)
    (hy : y.state = x.state ∧ y.waiting = x.waiting ∧ y.window = x.window.drop n) (hs : parcelsHeldOnce s) :
    parcelsHeldOnce ((s.setOutcomes ((x.window.take n).map (·.slot)) o).withTx p (some y)) := by
  obtain ⟨hheld, hopening⟩ := (parcelsHeldOnce_iff s).mp hs
  obtain ⟨hyst, hyw, hywin⟩ := hy
  refine parcelsHeldOnce_of_session (s := s) (y := some y) (State.withTx_peers_congr (by simp) p _) (by simp) hopening
    (fun z hz h => ?_) (HeldIn.withTx ?_ p _)
  · cases hz
    rw [hyst, hst] at h
    cases h
  · have hfront := hheld.front p
    rw [hx] at hfront
    have hwin : windowOf (some x) = (x.window.take n).map (·.slot) ++ windowOf (some y) := by
      simp only [windowOf, Option.map_some, Option.getD_some, hywin]
      rw [← List.map_append, List.take_append_drop]
    have hwait : waitingOf (some y) = waitingOf (some x) := by simp [waitingOf, hyw]
    rw [hwait]
    rw [hwin, heldBy_append, List.append_assoc] at hfront
    exact hfront.setOutcomes_flight o

theorem parcelsHeldOnce_terminalBreak {s : State} (p : StationId) (cause : Cause) (hs : parcelsHeldOnce s) :
    parcelsHeldOnce (s.terminalBreak p cause) := by
  cases hx : s.tx p with
  | none =>
    have : s.terminalBreak p cause = s := by simp only [State.terminalBreak, hx]
    rwa [this]
  | some x =>
    obtain ⟨hheld, hopening⟩ := (parcelsHeldOnce_iff s).mp hs
    refine parcelsHeldOnce_of_session (s.peers_terminalBreak p cause) (by simp) hopening nofun ?_
    rw [State.terminalBreak_of_tx hx]
    refine HeldIn.withTx ?_ p none
    have hfront := hheld.front p
    rw [hx] at hfront
    have hwin : heldBy (some p) (windowOf (some x)) =
        (x.window.map fun e => (e.slot, s.breakOutcome p cause e)).map fun d => (d.1, some p) := by
      simp [heldBy, windowOf, Function.comp_def]
    have hwait : heldBy (some p) (waitingOf (some x)) =
        (x.waiting.map fun w => (w.slot, directOutcome .notSent cause)).map fun d => (d.1, some p) := by
      simp [heldBy, waitingOf, Function.comp_def]
    rw [hwin, hwait] at hfront
    rw [State.breakOutcomes, State.settleAll, List.foldl_append]
    exact HeldIn.settle_all_waiting (h := some p) (HeldIn.settle_all_flight (h := some p) hfront)

theorem HeldIn.foldl_toWaiting {s : State} {l : List WindowEntry} {h : Option StationId} {w f : List Holding}
    (hs : HeldIn s w (heldBy h (l.map (·.slot)) ++ f)) :
    HeldIn (l.foldl (fun t e => t.toWaiting e.slot) s) (heldBy h (l.map (·.slot)) ++ w) f := by
  induction l generalizing s w with
  | nil => exact hs
  | cons e l ih =>
    have hback := ih (HeldIn.to_waiting (k := e.slot) (h := h) hs)
    exact hback.perm List.perm_middle (List.Perm.refl f)

theorem parcelsHeldOnce_reopeningBreak {s : State} (p : StationId) (cause : Cause) (hs : parcelsHeldOnce s) :
    parcelsHeldOnce (s.reopeningBreak p cause) := by
  cases hx : s.tx p with
  | none =>
    have : s.reopeningBreak p cause = s := by simp only [State.reopeningBreak, hx]
    rwa [this]
  | some x =>
    obtain ⟨hheld, hopening⟩ := (parcelsHeldOnce_iff s).mp hs
    refine parcelsHeldOnce_of_session (s.peers_reopeningBreak p cause) (by simp) hopening (fun z hz _ => ?_) ?_
    · unfold State.reopenedTx at hz
      rw [hx, Option.bind_some] at hz
      split at hz
      · cases hz
      · cases hz
        rfl
    · have hfront := hheld.front p
      rw [hx] at hfront
      have hwin : (heldBy (some p) (windowOf (some x))).Perm
          (heldBy (some p) ((x.window.filter (s.countsSent p cause)).map (·.slot)) ++
            heldBy (some p) ((x.window.filter fun e => !s.countsSent p cause e).map (·.slot))) := by
        rw [← heldBy_append, ← List.map_append]
        exact ((List.filter_append_perm (s.countsSent p cause) x.window).symm.map _).map _
      have hsplit := hfront.perm (List.Perm.refl _) (hwin.append_right _)
      rw [List.append_assoc] at hsplit
      have hwaiting : waitingOf (s.reopenedTx p cause) =
          (x.window.filter fun e => !s.countsSent p cause e).map (·.slot) ++ waitingOf (some x) := by
        unfold State.reopenedTx
        rw [hx, Option.bind_some]
        have hlist : (s.returnedWaiting p cause x).map (·.slot) =
            (x.window.filter fun e => !s.countsSent p cause e).map (·.slot) ++ waitingOf (some x) := by
          simp [State.returnedWaiting, waitingOf, Function.comp_def]
        rw [← hlist]
        split
        · next hnil => rw [hnil]; rfl
        · rfl
      have hwindow : windowOf (s.reopenedTx p cause) = [] := by
        unfold State.reopenedTx
        rw [hx, Option.bind_some]
        split <;> rfl
      rw [State.reopeningBreak_of_tx hx, hwaiting, hwindow, heldBy_append, List.append_assoc]
      exact ((hsplit.setOutcomes_flight _).foldl_toWaiting).withTx p _

theorem parcelsHeldOnce_enterWindow {s : State} {p : StationId} {x : TxSession} (hx : s.tx p = some x) (hst : x.state = .opened)
    (hs : parcelsHeldOnce s) : parcelsHeldOnce (s.enterWindow p) := by
  cases hw : x.waiting with
  | nil => rwa [State.enterWindow_of_nothing hx hw]
  | cons w rest =>
    obtain ⟨hheld, hopening⟩ := (parcelsHeldOnce_iff s).mp hs
    rw [State.enterWindow_of_tx hx hw]
    refine parcelsHeldOnce_of_session (s := s) (State.withTx_peers_congr (by simp) p _) (by simp) hopening (fun z hz h => ?_)
      (HeldIn.withTx ?_ p _)
    · cases hz
      exact absurd (hst.symm.trans h) (by simp)
    · have hfront := hheld.front p
      rw [hx] at hfront
      have hwait : waitingOf (some x) = w.slot :: waitingOf (some (x.entered w rest)) := by
        simp [waitingOf, TxSession.entered, hw]
      have hwin : windowOf (some (x.entered w rest)) = windowOf (some x) ++ [w.slot] := by
        simp [windowOf, TxSession.entered]
      rw [hwait] at hfront
      rw [hwin, heldBy_append, List.append_assoc]
      exact (HeldIn.to_flight hfront).perm (List.Perm.refl _) List.perm_middle.symm

theorem perm_insertAhead {α : Type} (normal : α → Bool) (x : α) (l : List α) : (insertAhead normal x l).Perm (x :: l) := by
  induction l with
  | nil => exact List.Perm.refl _
  | cons y ys ih =>
    unfold insertAhead
    split
    · exact List.Perm.refl _
    · exact (ih.cons y).trans (List.Perm.swap x y ys)

/-- A POST adds its slot to what the session has waiting, and leaves its window (R101, R102). -/
theorem sessionWith_holds (s : State) (p : StationId) (k : SlotId) (urgent : Bool) :
    (waitingOf (some (s.sessionWith p k urgent))).Perm (k :: waitingOf (s.tx p)) ∧
    windowOf (some (s.sessionWith p k urgent)) = windowOf (s.tx p) := by
  unfold State.sessionWith
  cases hx : s.tx p with
  | none => exact ⟨List.Perm.refl _, rfl⟩
  | some x =>
    refine ⟨?_, rfl⟩
    have hplace : (s.placeWaiting x.waiting k urgent).Perm (⟨k, false⟩ :: x.waiting) := by
      unfold State.placeWaiting
      split
      · exact perm_insertAhead _ _ _
      · exact List.perm_append_singleton _ _
    exact hplace.map _

theorem sessionWith_opening {s : State} {p : StationId} {k : SlotId} {urgent : Bool} (hopening : openingEmpty s)
    (hst : (s.sessionWith p k urgent).state = .opening) : (s.sessionWith p k urgent).window = [] := by
  unfold State.sessionWith at hst ⊢
  cases hx : s.tx p with
  | none => rfl
  | some x =>
    rw [hx] at hst
    exact hopening p x hx hst

theorem parcelsHeldOnce_postDirect {s : State} {k : SlotId} (hk : s.slot k = .free) (p : StationId) (urgent : Bool)
    (payload : List Byte) (hs : parcelsHeldOnce s) :
    parcelsHeldOnce ((s.fillOutbound k (.station p) urgent payload).queueDirect p k urgent) := by
  obtain ⟨hheld, hopening⟩ := (parcelsHeldOnce_iff s).mp hs
  have hpeers : (s.fillOutbound k (.station p) urgent payload).peers = s.peers := by simp
  have htx : (s.fillOutbound k (.station p) urgent payload).tx p = s.tx p := State.tx_congr hpeers p
  rw [State.queueDirect_eq]
  refine parcelsHeldOnce_of_session (s := s) (State.withTx_peers_congr hpeers p _) (by simp) hopening (fun z hz h => ?_)
    (HeldIn.withTx ?_ p _)
  · cases hz
    exact sessionWith_opening (fun q x hx => hopening q x ((State.tx_congr hpeers q).symm.trans hx)) h
  · obtain ⟨hwait, hwin⟩ := sessionWith_holds (s.fillOutbound k (.station p) urgent payload) p k urgent
    rw [htx] at hwait hwin
    rw [hwin]
    exact ((hheld.front p).fill hk (h := some p) rfl urgent payload).perm ((heldBy_perm _ hwait).symm.append_right _) (List.Perm.refl _)

/-! ### The acts of the Group Unit -/

/-- A load keeps the holdings: what is left waiting of the Group Unit, and what is then in its lane (R146). -/
theorem HeldIn.loadFrom {w f : List Holding} (l : List SlotId) : ∀ {s : State}, s.gu.lane = none →
    HeldIn s (heldBy none l ++ w) f →
    HeldIn (s.loadFrom l) (heldBy none (s.loadFrom l).gu.waiting ++ w)
      (heldBy none ((s.loadFrom l).gu.lane.map (·.slot)).toList ++ f) := by
  induction l with
  | nil =>
    intro s hl hs
    simp only [State.loadFrom, hl]
    exact hs.congr fun _ => sameForHolder_refl _
  | cons k rest ih =>
    intro s hl hs
    unfold State.loadFrom
    split
    · exact ih (by simpa using hl) (HeldIn.settle_waiting hs _)
    · exact (HeldIn.to_flight hs).congr fun _ => sameForHolder_refl _

theorem parcelsHeldOnce_of_gu {s t : State} (hpeers : t.peers = s.peers) (hopening : openingEmpty s)
    (h : HeldIn t (heldBy none t.gu.waiting ++ holdingsOf waitingOf s allStations)
      (heldBy none (t.gu.lane.map (·.slot)).toList ++ holdingsOf windowOf s allStations)) : parcelsHeldOnce t := by
  have htx : ∀ q, t.tx q = s.tx q := State.tx_congr hpeers
  have hholdings : ∀ f, holdingsOf f t allStations = holdingsOf f s allStations := fun f =>
    List.flatMap_congr fun q _ => by rw [htx q]
  refine (parcelsHeldOnce_iff t).mpr ⟨h.perm ?_ ?_, fun q x hx => hopening q x ((htx q).symm.trans hx)⟩
  · rw [waitingHeld, hholdings]
    exact List.perm_append_comm
  · rw [flightHeld, hholdings]
    exact List.perm_append_comm

/-- The holdings of a state, with those of the Group Unit in front. -/
theorem HeldIn.groupFront {s : State} (h : HeldIn s (waitingHeld s) (flightHeld s)) :
    HeldIn s (heldBy none s.gu.waiting ++ holdingsOf waitingOf s allStations)
      (heldBy none (s.gu.lane.map (·.slot)).toList ++ holdingsOf windowOf s allStations) :=
  h.perm List.perm_append_comm List.perm_append_comm

/-- A load after a change of the Group Unit's record keeps the invariant (R146). -/
theorem parcelsHeldOnce_load {s t : State} (hpeers : t.peers = s.peers) (hopening : openingEmpty s)
    (h : HeldIn t (heldBy none t.gu.waiting ++ holdingsOf waitingOf s allStations)
      (heldBy none (t.gu.lane.map (·.slot)).toList ++ holdingsOf windowOf s allStations)) : parcelsHeldOnce t.load := by
  unfold State.load
  split
  · next hl =>
    refine parcelsHeldOnce_of_gu (s := s) (by simpa using hpeers) hopening (HeldIn.loadFrom t.gu.waiting hl.1 ?_)
    rw [hl.1] at h
    exact h
  · exact parcelsHeldOnce_of_gu hpeers hopening h

theorem parcelsHeldOnce_postGroup {s : State} {k : SlotId} (hk : s.slot k = .free) (g : GroupId) (urgent : Bool)
    (payload : List Byte) (hs : parcelsHeldOnce s) :
    parcelsHeldOnce ((s.fillOutbound k (.group g) urgent payload).queueGroup k urgent) := by
  obtain ⟨hheld, hopening⟩ := (parcelsHeldOnce_iff s).mp hs
  have hfill := (HeldIn.groupFront hheld).fill hk (h := none) (d := .group g) ⟨g, rfl⟩ urgent payload
  unfold State.queueGroup
  refine parcelsHeldOnce_load (s := s) (by simp) hopening ?_
  refine (hfill.perm (w' := heldBy none (if urgent then insertAhead
      (fun j => !(s.fillOutbound k (.group g) urgent payload).urgentSlot j) k s.gu.waiting else s.gu.waiting ++ [k]) ++
      holdingsOf waitingOf s allStations) ?_ (List.Perm.refl _)).congr fun j => ?_
  · refine (heldBy_perm none (l := k :: s.gu.waiting) (List.Perm.symm ?_)).append_right _
    split
    · exact perm_insertAhead _ _ _
    · exact List.perm_append_singleton _ _
  · exact sameForHolder_refl _

theorem HeldIn.endLane {s : State} {l l' : Lane} {w f : List Holding} (hl : s.gu.lane = some l) (hslot : l'.slot = l.slot)
    (h : HeldIn s (heldBy none s.gu.waiting ++ w) (heldBy none (s.gu.lane.map (·.slot)).toList ++ f)) (code : OutcomeCode)
    (cause : Cause) :
    HeldIn (s.endLane l' code cause) (heldBy none (s.endLane l' code cause).gu.waiting ++ w)
      (heldBy none ((s.endLane l' code cause).gu.lane.map (·.slot)).toList ++ f) := by
  rw [hl] at h
  have hsettled := HeldIn.settle_flight (k := l.slot) (h := none) h (groupOutcome code cause l'.answered l'.missing)
  rw [← hslot] at hsettled
  have hwaiting : (s.endLane l' code cause).gu.waiting = s.gu.waiting := by simp [State.endLane]
  rw [hwaiting]
  exact hsettled.congr fun _ => sameForHolder_refl _

theorem parcelsHeldOnce_endLane {s : State} {l l' : Lane} (hl : s.gu.lane = some l) (hslot : l'.slot = l.slot)
    (code : OutcomeCode) (cause : Cause) (hs : parcelsHeldOnce s) : parcelsHeldOnce ((s.endLane l' code cause).load) := by
  obtain ⟨hheld, hopening⟩ := (parcelsHeldOnce_iff s).mp hs
  exact parcelsHeldOnce_load (by simp) hopening ((HeldIn.groupFront hheld).endLane hl hslot code cause)

/-! ### CANCEL and the teardown -/

/-- A waiting parcel's holder in the list, when its slot is WAITING (Table 5-1). -/
theorem HeldIn.holder {s : State} {w f : List Holding} (h : HeldIn s w f) {k : SlotId} {c : Parcel} (hk : s.slot k = .waiting c) :
    ∃ p, (k, p) ∈ w ∧ holderNamed p (some c.dest) := by
  have hcount := h.waiting k
  rw [hk] at hcount
  have hmem : k ∈ w.map (·.1) := List.count_pos_iff.mp (by rw [hcount]; exact Nat.one_pos)
  obtain ⟨e, he, rfl⟩ := List.mem_map.mp hmem
  refine ⟨e.2, he, ?_⟩
  have hnamed := h.named e (List.mem_append_left _ he)
  rwa [hk] at hnamed

theorem HeldIn.waiting_nodup {s : State} {w f : List Holding} (h : HeldIn s w f) : (w.map (·.1)).Nodup := nodup_of_count_eq h.waiting

theorem perm_cons_filter_ne {l : List SlotId} {k : SlotId} (hk : k ∈ l) (hl : l.Nodup) :
    l.Perm (k :: l.filter fun j => decide (j ≠ k)) := by
  have herase : l.erase k = l.filter fun j => decide (j ≠ k) := by
    rw [hl.erase_eq_filter]
    exact List.filter_congr fun j _ => by by_cases hj : j = k <;> simp [hj]
  rw [← herase]
  exact List.perm_cons_erase hk

/-- What CANCEL leaves of a session's parcels: all but the one withdrawn (R103). -/
theorem without_holds {x : TxSession} (k : SlotId) (hopening : x.state = .opening → x.window = []) :
    waitingOf (x.without k) = (waitingOf (some x)).filter (fun j => decide (j ≠ k)) ∧ windowOf (x.without k) = windowOf (some x) := by
  have hlist : (x.waiting.map (·.slot)).filter (fun j => decide (j ≠ k)) =
      (x.waiting.filter fun w => decide (w.slot ≠ k)).map (·.slot) := by
    rw [List.filter_map]
    rfl
  simp only [waitingOf, windowOf, Option.map_some, Option.getD_some, hlist]
  unfold TxSession.without
  split
  · next h =>
    obtain ⟨hst, hnil⟩ := h
    rw [hnil, hopening hst]
    exact ⟨rfl, rfl⟩
  · exact ⟨rfl, rfl⟩

theorem without_opening {x y : TxSession} {k : SlotId} (hopening : x.state = .opening → x.window = [])
    (hy : x.without k = some y) : y.state = .opening → y.window = [] := by
  unfold TxSession.without at hy
  split at hy
  · cases hy
  · cases hy
    exact hopening

theorem parcelsHeldOnce_withdraw {s : State} (k : SlotId) (hs : parcelsHeldOnce s) : parcelsHeldOnce (s.withdraw k) := by
  unfold State.withdraw
  split
  · exact hs
  · next c hc =>
    have hk := Slot.waitingParcel_eq_some.mp hc
    obtain ⟨hheld, hopening⟩ := (parcelsHeldOnce_iff s).mp hs
    obtain ⟨h, hmem, hnamed⟩ := hheld.holder hk
    split
    · next p hd =>
      have hh : h = some p := by
        rw [hd] at hnamed
        cases h with
        | none => simp [holderNamed] at hnamed
        | some q => simpa [holderNamed] using hnamed.symm
      subst hh
      obtain ⟨q, -, hkq, hq⟩ := mem_holdingsOf.mp ((List.mem_append.mp hmem).resolve_right fun h => by simp [mem_heldBy] at h)
      cases hq
      obtain ⟨x, hx, -⟩ := mem_waitingOf.mp hkq
      have htx : (s.setOutcome k (directOutcome .cancelled .host)).tx p = some x := by
        rw [State.tx_congr (s := s) (by simp), hx]
      obtain ⟨hwait, hwin⟩ := without_holds k (hopening p x hx)
      rw [State.dropWaiting_of_some htx]
      refine parcelsHeldOnce_of_session (s := s) (State.withTx_peers_congr (by simp) p _) (by simp) hopening
        (fun z hz => without_opening (hopening p x hx) hz) (HeldIn.withTx ?_ p _)
      have hnodup : (waitingOf (s.tx p)).Nodup := by
        have := (hheld.front p).waiting_nodup
        rw [List.map_append, slots_heldBy] at this
        exact this.of_append_left
      have hfront := (hheld.front p).perm ((heldBy_perm _ (perm_cons_filter_ne hkq hnodup)).append_right _) (List.Perm.refl _)
      rw [hx] at hfront
      rw [hwait, hwin]
      exact HeldIn.settle_waiting hfront _
    · next g hd =>
      have hh : h = none := by
        rw [hd] at hnamed
        cases h with
        | none => rfl
        | some q => simp [holderNamed] at hnamed
      subst hh
      have hkg : k ∈ s.gu.waiting := by
        rcases List.mem_append.mp hmem with h | h
        · obtain ⟨q, -, -, hq⟩ := mem_holdingsOf.mp h
          cases hq
        · exact (mem_heldBy.mp h).1
      have hgroup := HeldIn.groupFront hheld
      have hnodup : s.gu.waiting.Nodup := by
        have := hgroup.waiting_nodup
        rw [List.map_append, slots_heldBy] at this
        exact this.of_append_left
      have hsettled := HeldIn.settle_waiting (hgroup.perm ((heldBy_perm _ (perm_cons_filter_ne hkg hnodup)).append_right _)
        (List.Perm.refl _)) (groupOutcome .cancelled .host 0 0)
      refine parcelsHeldOnce_of_gu (s := s) (by simp) hopening ?_
      simp only [State.setOutcome_keeps]
      exact hsettled.congr fun _ => sameForHolder_refl _

theorem parcelsHeldOnce_teardownLane {s : State} (cause : Cause) (hs : parcelsHeldOnce s) : parcelsHeldOnce (s.teardownLane cause) := by
  unfold State.teardownLane
  split
  · exact hs
  · next l hl =>
    obtain ⟨hheld, hopening⟩ := (parcelsHeldOnce_iff s).mp hs
    exact parcelsHeldOnce_of_gu (by simp) hopening ((HeldIn.groupFront hheld).endLane hl rfl _ _)

theorem parcelsHeldOnce_clearWaiting {s : State} (o : SlotId → ParcelOutcome) (hs : parcelsHeldOnce s) :
    parcelsHeldOnce { s.setOutcomes s.gu.waiting o with gu := { (s.setOutcomes s.gu.waiting o).gu with waiting := [] } } := by
  obtain ⟨hheld, hopening⟩ := (parcelsHeldOnce_iff s).mp hs
  refine parcelsHeldOnce_of_gu (s := s) (by simp) hopening ?_
  simp only [State.setOutcomes_keeps]
  exact ((HeldIn.groupFront hheld).setOutcomes_waiting o).congr fun _ => sameForHolder_refl _

/-- What leaves the sessions, the Group Unit and the slots alone keeps the invariant. -/
theorem parcelsHeldOnce_of_same {s t : State} (htx : ∀ q, t.tx q = s.tx q) (hgu : t.gu = s.gu) (hslots : t.slots = s.slots)
    (hs : parcelsHeldOnce s) : parcelsHeldOnce t :=
  parcelsHeldOnce_congr htx (by rw [hgu]) (by rw [hgu]) (sameForHolder_of_slots hslots) hs

theorem tx_withRx (s : State) (p : StationId) (e : Option Seq) (q : StationId) : (s.withRx p e).tx q = s.tx q := by
  rw [State.tx, State.peer_withRx]
  split
  · next hq => rw [hq]; rfl
  · rfl

theorem tx_withLastGroup (s : State) (p : StationId) (e : Option Seq) (q : StationId) : (s.withLastGroup p e).tx q = s.tx q := by
  rw [State.tx, State.peer_withLastGroup]
  split
  · next hq => rw [hq]; rfl
  · rfl

theorem tx_clearPeers (s : State) (q : StationId) : s.clearPeers.tx q = s.tx q := by
  rw [State.tx, State.peer_clearPeers]
  split <;> rfl

theorem parcelsHeldOnce_sessionTeardown {s : State} (cause : Cause) (hs : parcelsHeldOnce s) :
    parcelsHeldOnce (s.sessionTeardown cause) := by
  have hbreaks := foldl_keep (fun s p => parcelsHeldOnce_terminalBreak (s := s) p cause) allStations hs
  have hrecords := foldl_keep (fun s p => parcelsHeldOnce_of_same (s := s) (tx_withRx s p none) rfl rfl) allStations hbreaks
  unfold State.sessionTeardown
  dsimp only
  generalize allStations.foldl (fun (s : State) p => s.withRx p none) _ = u at hrecords ⊢
  exact parcelsHeldOnce_of_same (fun _ => rfl) rfl rfl hrecords

theorem parcelsHeldOnce_groupTeardown {s : State} (cause : Cause) (hs : parcelsHeldOnce s) :
    parcelsHeldOnce (s.groupTeardown cause) := by
  unfold State.groupTeardown
  exact foldl_keep (fun s p => parcelsHeldOnce_of_same (s := s) (tx_withLastGroup s p none) rfl rfl) allStations
    (parcelsHeldOnce_clearWaiting _ (parcelsHeldOnce_teardownLane cause hs))

theorem parcelsHeldOnce_teardown {s : State} (cause : Cause) (hs : parcelsHeldOnce s) : parcelsHeldOnce (s.teardown cause) := by
  have hunits := parcelsHeldOnce_groupTeardown cause (parcelsHeldOnce_sessionTeardown cause hs)
  have hpeers := parcelsHeldOnce_of_same (tx_clearPeers _) (by simp) (by simp) hunits
  unfold State.teardown
  dsimp only
  generalize ((s.sessionTeardown cause).groupTeardown cause).clearPeers = u at hpeers ⊢
  exact parcelsHeldOnce_of_same (fun _ => rfl) rfl rfl hpeers

/-! ### Every act, and every step -/

theorem Act.keeps_parcelsHeldOnce {s t : State} (h : Act s t) (hs : parcelsHeldOnce s) : parcelsHeldOnce t := by
  obtain ⟨-, hopening⟩ := (parcelsHeldOnce_iff s).mp hs
  cases h with
  | session p x y hx hy =>
    obtain ⟨hst, hw, hwin, -⟩ := hy
    exact parcelsHeldOnce_session hx hw hwin (fun h => hopening p x hx (hst ▸ h)) hs
  | opened p x hx hst => exact parcelsHeldOnce_session hx rfl (hopening p x hx hst).symm nofun hs
  | markSent k => exact parcelsHeldOnce_congr (tx_of_peers (by simp)) (by simp) (by simp) (sameForHolder_markSent s k) hs
  | accept k p origin payload hk =>
    exact parcelsHeldOnce_congr (tx_of_peers (by simp)) (by simp) (by simp) (sameForHolder_accept hk p origin payload) hs
  | acknowledge p x y n o hx hst hn hy =>
    obtain ⟨hyst, hyw, hywin, -⟩ := hy
    exact parcelsHeldOnce_acknowledge n o hx hst ⟨hyst, hyw, hywin⟩ hs
  | terminalBreak p cause => exact parcelsHeldOnce_terminalBreak p cause hs
  | reopeningBreak p cause => exact parcelsHeldOnce_reopeningBreak p cause hs
  | enterWindow p x hx hst _ => exact parcelsHeldOnce_enterWindow hx hst hs
  | withdraw k => exact parcelsHeldOnce_withdraw k hs
  | postDirect k p urgent payload hk _ _ =>
    exact parcelsHeldOnce_postDirect (State.freeSlot_spec (State.outboundSlot_free hk)).1 p urgent payload hs
  | postGroup k g urgent payload hk _ =>
    exact parcelsHeldOnce_postGroup (State.freeSlot_spec (State.outboundSlot_free hk)).1 g urgent payload hs
  | lane l l' hl hslot _ =>
    exact parcelsHeldOnce_congr (s := s) (fun _ => rfl) rfl (by simp [hl, hslot]) (fun _ => sameForHolder_refl _) hs
  | endLane l l' code cause hl hslot => exact parcelsHeldOnce_endLane hl hslot code cause hs
  | teardown st cause _ _ =>
    exact parcelsHeldOnce_teardown cause (parcelsHeldOnce_of_same (tx_of_peers (by simp)) (by simp) (by simp) hs)
  | rx p e _ => exact parcelsHeldOnce_of_same (tx_withRx s p e) rfl rfl hs
  | lastGroup p q => exact parcelsHeldOnce_of_same (tx_withLastGroup s p q) rfl rfl hs
  | presence p pr groups _ _ => exact parcelsHeldOnce_of_same (fun q => (s.held_withPresence p q _ _ _).1) rfl rfl hs
  | clearPeers _ => exact parcelsHeldOnce_of_same (tx_clearPeers s) (by simp) (by simp) hs
  | _ => exact parcelsHeldOnce_of_same (tx_of_peers (by simp)) (by simp) (by simp) hs

theorem TakesEntry.keeps_parcelsHeldOnce {s t : State} (h : TakesEntry s t) (hs : parcelsHeldOnce s) : parcelsHeldOnce t := by
  obtain ⟨-, -, -, hpeers, -, hgu, -⟩ := h.line
  have hfreed : ∀ {k : SlotId} {v : Slot}, s.slot k = v → isWaiting v = false → isInFlight v = false → ∀ j,
      sameForHolder (s.slot j) ((s.withSlot k .free).slot j) := by
    intro k v hk hw hf j
    rw [State.slot_withSlot]
    split
    · next hj =>
      subst hj
      rw [hk]
      exact ⟨hw.symm, hf.symm, fun h => by simp [hw, hf] at h⟩
    · exact sameForHolder_refl _
  refine parcelsHeldOnce_congr (tx_of_peers hpeers) (by rw [hgu]) (by rw [hgu]) ?_ hs
  cases h with
  | none => exact fun _ => sameForHolder_refl _
  | fetch k rest p origin payload _ hk => exact hfreed hk rfl rfl
  | notice kind peer missed rest _ => exact fun _ => sameForHolder_refl _
  | outcome k rest c o _ hk => exact hfreed hk rfl rfl

theorem State.slot_blocksReset (cfg : ConfigBlock) (reply : Reply) (port : Port) (low : Bool) (addr : StationId) (rate : Fin 4)
    (pending : List Instr) (k : SlotId) : (State.blocksReset cfg reply port low addr rate pending).slot k = .free := by
  simp [State.slot, State.blocksReset]

theorem parcelsHeldOnce_blocksReset (cfg : ConfigBlock) (reply : Reply) (port : Port) (low : Bool) (addr : StationId) (rate : Fin 4)
    (pending : List Instr) : parcelsHeldOnce (.blocksReset cfg reply port low addr rate pending) := by
  have htx : ∀ q, (State.blocksReset cfg reply port low addr rate pending).tx q = none := fun q => by
    rw [State.tx, State.peer_blocksReset]
    rfl
  have hnone : ∀ f, f none = [] → holdingsOf f (.blocksReset cfg reply port low addr rate pending) allStations = [] := fun f hf => by
    rw [holdingsOf, List.flatMap_eq_nil_iff]
    intro q _
    rw [htx, hf]
    rfl
  refine (parcelsHeldOnce_iff _).mpr ⟨?_, fun q x hx => absurd ((htx q).symm.trans hx) (by simp)⟩
  rw [waitingHeld, flightHeld, hnone _ rfl, hnone _ rfl]
  refine ⟨fun k => ?_, fun k => ?_, nofun⟩ <;> rw [State.slot_blocksReset] <;> rfl

/-- Outside MEMBER nothing is held, and so nothing is outstanding (R98). -/
theorem nothingOutstanding_of_heldOnce {s : State} (hs : parcelsHeldOnce s) (hwork : workOnlyInMember s)
    (hst : s.mu.station ≠ .member) : nothingOutstanding s := by
  obtain ⟨hno, hnowork, -⟩ := (workOnlyInMember_iff s).mp hwork
  obtain ⟨-, hlane, hwait⟩ := hnowork hst
  obtain ⟨hw, hf, -⟩ := hs
  have htx : ∀ q, s.tx q = none := fun q => (hno hst q).1
  have hwaiting : waitingRefs s = [] := by simp [waitingRefs, htx, hwait]
  have hflight : flightRefs s = [] := by simp [flightRefs, htx, hlane]
  rw [hwaiting] at hw
  rw [hflight] at hf
  refine fun k c => ⟨fun hk => ?_, fun hk => ?_⟩
  · have := hw k
    simp [hk, isWaiting] at this
  · have := hf k
    simp [hk, isInFlight] at this

/-- Settles O53: each act moves slots between the holders as it moves them between the states of Table 5-1. -/
theorem parcelsHeldOnce_step : Obligations.ParcelsHeldOnce := by
  refine ⟨fun s t h hs => ?_, fun s hs hwork hst => nothingOutstanding_of_heldOnce hs hwork hst⟩
  exact step_keeps_of_acts (I := parcelsHeldOnce) Act.keeps_parcelsHeldOnce
    (fun s p _ hs => parcelsHeldOnce_of_same (fun q => (s.held_withPresence p q _ _ _).1) rfl rfl hs)
    (fun s p hs => parcelsHeldOnce_of_same (fun q => (s.held_ageOne p q).1) (by simp) (by simp) hs)
    TakesEntry.keeps_parcelsHeldOnce (fun _ _ _ _ _ _ _ _ => parcelsHeldOnce_blocksReset ..) h hs

end Sys2Proof.Machine
end

section
/-!
PROOFS. O50 and O55: the slots, the delivered list, the report list and the ticket counter change by the few moves of the Parcel
Store, and each move keeps what chapter 5 and chapter 10 say of them.
-/
namespace Sys2Proof.Machine

open Sys2Proof Sys2Proof.Safety

/-! ### The moves of the store -/

/-- One move of the Parcel Store and the report list, or a change of anything else. -/
inductive StoreMove : State → State → Prop
  | other {s t : State} : t.slots = s.slots → t.delivered = s.delivered → t.ticket = s.ticket → t.report = s.report → StoreMove s t
  | raise (s : State) (kind : NoticeKind) (peer : Option StationId) : StoreMove s (s.raise kind peer)
  | outcome (s : State) (k : SlotId) (o : ParcelOutcome) : StoreMove s (s.setOutcome k o)
  | toInFlight (s : State) (k : SlotId) : StoreMove s (s.toInFlight k)
  | toWaiting (s : State) (k : SlotId) : StoreMove s (s.toWaiting k)
  | markSent (s : State) (k : SlotId) : StoreMove s (s.markSent k)
  | fill (s : State) (k : SlotId) (d : Dest) (urgent : Bool) (payload : List Byte) : s.outboundSlot = some k →
      StoreMove s (s.fillOutbound k d urgent payload)
  | accept (s : State) (k : SlotId) (p : StationId) (origin : Origin) (payload : List Byte) : s.freeSlot = some k →
      StoreMove s (s.accept k p origin payload)

/-- Moves one after another. -/
abbrev StoreMoves : State → State → Prop := Relation.ReflTransGen StoreMove

theorem StoreMove.moves {s t : State} (h : StoreMove s t) : StoreMoves s t := .single h

/-- What leaves the store and the report list alone. -/
theorem StoreMoves.other {s t : State} (hslots : t.slots = s.slots) (hdelivered : t.delivered = s.delivered)
    (hticket : t.ticket = s.ticket) (hreport : t.report = s.report) : StoreMoves s t :=
  .single (.other hslots hdelivered hticket hreport)

theorem StoreMoves.foldl {γ : Type} {f : State → γ → State} (h : ∀ s c, StoreMoves s (f s c)) (l : List γ) (s : State) :
    StoreMoves s (l.foldl f s) := by
  induction l generalizing s with
  | nil => exact .refl
  | cons c l ih => exact (h s c).trans (ih (f s c))

theorem State.settleAll_moves (s : State) (l : List (SlotId × ParcelOutcome)) : StoreMoves s (s.settleAll l) :=
  StoreMoves.foldl (f := fun (t : State) (d : SlotId × ParcelOutcome) => t.setOutcome d.1 d.2)
    (fun s d => (StoreMove.outcome s d.1 d.2).moves) l s

theorem State.setOutcomes_moves (s : State) (l : List SlotId) (o : SlotId → ParcelOutcome) : StoreMoves s (s.setOutcomes l o) :=
  StoreMoves.foldl (fun s k => .single (.outcome s k (o k))) l s

theorem State.withTx_moves (s : State) (p : StationId) (y : Option TxSession) : StoreMove s (s.withTx p y) := .other rfl rfl rfl rfl

theorem State.terminalBreak_moves (s : State) (p : StationId) (cause : Cause) : StoreMoves s (s.terminalBreak p cause) := by
  cases hx : s.tx p with
  | none =>
    have : s.terminalBreak p cause = s := by simp only [State.terminalBreak, hx]
    rw [this]
  | some x =>
    rw [State.terminalBreak_of_tx hx]
    exact (s.settleAll_moves _).tail (State.withTx_moves _ p none)

theorem State.reopeningBreak_moves (s : State) (p : StationId) (cause : Cause) : StoreMoves s (s.reopeningBreak p cause) := by
  cases hx : s.tx p with
  | none =>
    have : s.reopeningBreak p cause = s := by simp only [State.reopeningBreak, hx]
    rw [this]
  | some x =>
    rw [State.reopeningBreak_of_tx hx]
    exact ((s.setOutcomes_moves _ _).trans (StoreMoves.foldl (fun s e => .single (.toWaiting s _)) _ _)).tail
      (State.withTx_moves _ p _)

theorem State.enterWindow_moves (s : State) (p : StationId) : StoreMoves s (s.enterWindow p) := by
  cases hx : s.tx p with
  | none =>
    have : s.enterWindow p = s := by simp only [State.enterWindow, hx]
    rw [this]
  | some x =>
    cases hw : x.waiting with
    | nil => rw [State.enterWindow_of_nothing hx hw]
    | cons w rest =>
      rw [State.enterWindow_of_tx hx hw]
      exact (StoreMove.toInFlight s _).moves.tail (State.withTx_moves _ p _)

theorem State.withdraw_moves (s : State) (k : SlotId) : StoreMoves s (s.withdraw k) := by
  unfold State.withdraw
  split
  · exact .refl
  · split
    · exact (StoreMove.outcome s k (directOutcome .cancelled .host)).moves.tail (.other (by simp) (by simp) (by simp) (by simp))
    · exact (StoreMove.outcome s k _).moves.tail (.other rfl rfl rfl rfl)

theorem State.loadFrom_moves (l : List SlotId) : ∀ s : State, StoreMoves s (s.loadFrom l) := by
  induction l with
  | nil => exact fun s => .other rfl rfl rfl rfl
  | cons k rest ih =>
    intro s
    unfold State.loadFrom
    split
    · exact .head (.outcome s k _) (ih _)
    · exact (StoreMove.toInFlight s k).moves.tail (.other rfl rfl rfl rfl)

theorem State.load_moves (s : State) : StoreMoves s s.load := by
  unfold State.load
  split
  · exact State.loadFrom_moves _ s
  · exact .refl

theorem State.queueGroup_moves (s : State) (k : SlotId) (urgent : Bool) : StoreMoves s (s.queueGroup k urgent) := by
  unfold State.queueGroup
  refine Relation.ReflTransGen.trans ?_ (State.load_moves _)
  exact StoreMoves.other rfl rfl rfl rfl

theorem State.endLane_moves (s : State) (l : Lane) (code : OutcomeCode) (cause : Cause) : StoreMoves s (s.endLane l code cause) :=
  (StoreMove.outcome s l.slot _).moves.tail (.other rfl rfl rfl rfl)

theorem State.teardownLane_moves (s : State) (cause : Cause) : StoreMoves s (s.teardownLane cause) := by
  unfold State.teardownLane
  split
  · exact .refl
  · exact s.endLane_moves _ _ _

theorem State.sessionTeardown_moves (s : State) (cause : Cause) : StoreMoves s (s.sessionTeardown cause) := by
  have hbreaks := StoreMoves.foldl (fun s p => State.terminalBreak_moves s p cause) allStations s
  have hrecords := StoreMoves.foldl (f := fun (s : State) p => s.withRx p none) (fun s p => .other rfl rfl rfl rfl) allStations
    (allStations.foldl (fun s p => s.terminalBreak p cause) s)
  unfold State.sessionTeardown
  dsimp only
  generalize allStations.foldl (fun (s : State) p => s.withRx p none) _ = u at hrecords ⊢
  exact (hbreaks.trans hrecords).tail (.other rfl rfl rfl rfl)

theorem State.groupTeardown_moves (s : State) (cause : Cause) : StoreMoves s (s.groupTeardown cause) := by
  have hlane := (s.teardownLane_moves cause).trans (State.setOutcomes_moves _ (s.teardownLane cause).gu.waiting
    fun _ => groupOutcome .notSent cause 0 0)
  unfold State.groupTeardown
  dsimp only
  generalize (s.teardownLane cause).setOutcomes _ _ = u at hlane ⊢
  refine Relation.ReflTransGen.trans ?_
    (StoreMoves.foldl (f := fun (s : State) p => s.withLastGroup p none) (fun s p => .other rfl rfl rfl rfl) allStations _)
  exact hlane.tail (.other rfl rfl rfl rfl)

theorem State.teardown_moves (s : State) (cause : Cause) : StoreMoves s (s.teardown cause) := by
  have hunits := (s.sessionTeardown_moves cause).trans (State.groupTeardown_moves _ cause)
  have hpeers := hunits.tail (.other (t := ((s.sessionTeardown cause).groupTeardown cause).clearPeers) (by simp) (by simp)
    (by simp) (by simp))
  unfold State.teardown
  dsimp only
  generalize ((s.sessionTeardown cause).groupTeardown cause).clearPeers = u at hpeers ⊢
  exact hpeers.tail (.other rfl rfl rfl rfl)

/-- Every act is a row of moves of the store. -/
theorem Act.moves {s t : State} (h : Act s t) : StoreMoves s t := by
  cases h with
  | raise kind peer => exact .single (.raise s kind peer)
  | markSent k => exact .single (.markSent s k)
  | accept k p origin payload hk => exact .single (.accept s k p origin payload hk)
  | acknowledge p x y n o _ _ _ _ => exact (s.setOutcomes_moves _ o).tail (State.withTx_moves _ p _)
  | terminalBreak p cause => exact s.terminalBreak_moves p cause
  | reopeningBreak p cause => exact s.reopeningBreak_moves p cause
  | enterWindow p x _ _ _ => exact s.enterWindow_moves p
  | withdraw k => exact s.withdraw_moves k
  | postDirect k p urgent payload hk _ _ =>
    exact (StoreMove.fill s k (.station p) urgent payload hk).moves.tail (.other (by simp) (by simp) (by simp) (by simp))
  | postGroup k g urgent payload hk _ => exact .head (.fill s k _ urgent payload hk) (State.queueGroup_moves _ k urgent)
  | endLane l l' code cause _ _ => exact (s.endLane_moves l' code cause).trans (State.load_moves _)
  | teardown st cause _ _ =>
    exact .head (.other (by simp) (by simp) (by simp) (by simp)) (State.teardown_moves (s.become st) cause)
  | _ => exact .other (by simp) (by simp) (by simp) (by simp)

/-- Every deed is a row of moves of the store. -/
theorem Deed.moves {s t : State} (h : Deed s t) : StoreMoves s t :=
  Deed.keep_of_parts (I := StoreMoves s) (fun h hs => hs.trans h.moves) (fun _ _ _ hs => hs.tail (.other rfl rfl rfl rfl))
    (fun _ _ hs => hs.tail (.other (by simp) (by simp) (by simp) (by simp))) h .refl

theorem Deeds.moves {s t : State} (h : Deeds s t) : StoreMoves s t :=
  Deeds.keep (I := StoreMoves s) (fun h hs => hs.trans h.moves) h .refl

/-- What every move keeps, moves one after another keep. -/
theorem StoreMoves.keep {I : State → Prop} (hmove : ∀ {s t}, StoreMove s t → I s → I t) {s t : State} (h : StoreMoves s t)
    (hs : I s) : I t := by
  induction h with
  | refl => exact hs
  | tail _ h ih => exact hmove h ih

/-! ### What a move does to each slot -/

/-- A move changes the state of one slot at most, as Table 5-1 allows, and the lists and the counter with it. -/
theorem StoreMove.slotsGo {s t : State} (h : StoreMove s t) : slotsGo s t := by
  cases h with
  | other hslots _ _ _ => exact slotsGo_of_slots hslots
  | raise kind peer => exact slotsGo_of_slots rfl
  | outcome k o => exact s.setOutcome_slots k o
  | toInFlight k => exact s.toInFlight_slots k
  | toWaiting k => exact s.toWaiting_slots k
  | markSent k => exact s.markSent_slots k
  | fill k d urgent payload hk =>
    exact s.fillOutbound_slots k d urgent payload (State.freeSlot_spec (State.outboundSlot_free hk)).1
  | accept k p origin payload hk => exact s.accept_slots k p origin payload (State.freeSlot_spec hk).1

/-- The ticket of a posted parcel (R87). -/
def Slot.ticket? (v : Slot) : Option Ticket := v.parcel.map (·.ticket)

/-- A change of a slot that neither fills nor frees it. -/
def Slot.moved (a b : Slot) : Prop := mayBecome a b ∧ (a = .free → b = .free)

theorem Slot.moved_refl (a : Slot) : a.moved a := ⟨mayBecome_refl a, id⟩

theorem Slot.moved_ticket {a b : Slot} (h : a.moved b) : b.ticket? = a.ticket? := by
  obtain ⟨rfl | rfl | ⟨c, d, ⟨ht, -⟩, ha, hb⟩, hfree⟩ := h
  · rfl
  · rw [hfree rfl]
  · have hbt : b.ticket? = some d.ticket := by rcases hb with rfl | rfl | ⟨o, rfl⟩ <;> rfl
    have hat : a.ticket? = some c.ticket := by rcases ha with rfl | rfl <;> rfl
    rw [hat, hbt, ht]

theorem Slot.moved_isDelivered {a b : Slot} (h : a.moved b) : b.isDelivered = a.isDelivered := by
  obtain ⟨rfl | rfl | ⟨c, d, -, ha, hb⟩, hfree⟩ := h
  · rfl
  · rw [hfree rfl]
  · have hbd : b.isDelivered = false := by rcases hb with rfl | rfl | ⟨o, rfl⟩ <;> rfl
    have had : a.isDelivered = false := by rcases ha with rfl | rfl <;> rfl
    rw [had, hbd]

theorem moved_setOutcome (s : State) (k j : SlotId) (o : ParcelOutcome) : (s.slot j).moved ((s.setOutcome k o).slot j) := by
  refine ⟨s.setOutcome_slots k o j, fun h => ?_⟩
  rw [State.slot_setOutcome]
  split
  · next hj => rw [← hj, h]
  · exact h

theorem moved_toInFlight (s : State) (k j : SlotId) : (s.slot j).moved ((s.toInFlight k).slot j) := by
  refine ⟨s.toInFlight_slots k j, fun h => ?_⟩
  rw [State.slot_toInFlight]
  split
  · next hj => rw [← hj, h]
  · exact h

theorem moved_toWaiting (s : State) (k j : SlotId) : (s.slot j).moved ((s.toWaiting k).slot j) := by
  refine ⟨s.toWaiting_slots k j, fun h => ?_⟩
  rw [State.slot_toWaiting]
  split
  · next hj => rw [← hj, h]
  · exact h

theorem moved_markSent (s : State) (k j : SlotId) : (s.slot j).moved ((s.markSent k).slot j) := by
  refine ⟨s.markSent_slots k j, fun h => ?_⟩
  rw [State.slot_markSent]
  split
  · next hj => rw [← hj, h]
  · exact h

/-- A move fills a FREE slot, accepts a parcel into one, or neither fills nor frees a slot. -/
theorem StoreMove.slots_cases {s t : State} (h : StoreMove s t) :
    ((∀ j, (s.slot j).moved (t.slot j)) ∧ t.delivered = s.delivered ∧ t.ticket = s.ticket) ∨
    (∃ k d urgent payload, s.outboundSlot = some k ∧ t = s.fillOutbound k d urgent payload) ∨
    ∃ k p origin payload, s.freeSlot = some k ∧ t = s.accept k p origin payload := by
  cases h with
  | other hslots hdelivered hticket _ =>
    exact .inl ⟨fun j => State.slot_congr hslots j ▸ Slot.moved_refl _, hdelivered, hticket⟩
  | raise kind peer => exact .inl ⟨fun _ => Slot.moved_refl _, rfl, rfl⟩
  | outcome k o => exact .inl ⟨fun j => moved_setOutcome s k j o, by simp, by simp⟩
  | toInFlight k => exact .inl ⟨moved_toInFlight s k, by simp, by simp⟩
  | toWaiting k => exact .inl ⟨moved_toWaiting s k, by simp, by simp⟩
  | markSent k => exact .inl ⟨moved_markSent s k, by simp, by simp⟩
  | fill k d urgent payload hk => exact .inr (.inl ⟨k, d, urgent, payload, hk, rfl⟩)
  | accept k p origin payload hk => exact .inr (.inr ⟨k, p, origin, payload, hk, rfl⟩)

/-- A move either leaves every slot's ticket and the counter, or it is the fill of a FREE slot (R86, R87). -/
theorem StoreMove.tickets {s t : State} (h : StoreMove s t) :
    ((∀ j, (t.slot j).ticket? = (s.slot j).ticket?) ∧ t.ticket = s.ticket) ∨
    ∃ k d urgent payload, s.outboundSlot = some k ∧ t = s.fillOutbound k d urgent payload := by
  rcases h.slots_cases with ⟨hmoved, -, hticket⟩ | hfill | ⟨k, p, origin, payload, hk, rfl⟩
  · exact .inl ⟨fun j => Slot.moved_ticket (hmoved j), hticket⟩
  · exact .inr hfill
  · refine .inl ⟨fun j => ?_, by simp⟩
    rw [State.slot_accept]
    split
    · next hj =>
      rw [hj, (State.freeSlot_spec hk).1]
      rfl
    · rfl

/-! ### The outbound cap (R86) -/

theorem Slot.isOutbound_eq (v : Slot) : v.isOutbound = v.ticket?.isSome := by cases v <;> rfl

theorem State.outboundCount_eq {s t : State} (h : ∀ j, (t.slot j).ticket? = (s.slot j).ticket?) :
    t.countSlots Slot.isOutbound = s.countSlots Slot.isOutbound := by
  refine List.countP_congr fun j _ => ?_
  rw [Slot.isOutbound_eq, Slot.isOutbound_eq, h]

theorem allSlots_nodup : allSlots.Nodup := List.nodup_finRange 40

theorem mem_allSlots (k : SlotId) : k ∈ allSlots := List.mem_finRange k

/-- A condition that holds at one slot more than before counts one more. -/
theorem countP_one_more {p q : SlotId → Bool} {l : List SlotId} {k : SlotId} (hl : l.Nodup) (hk : k ∈ l)
    (hother : ∀ j, j ≠ k → q j = p j) (hp : p k = false) (hq : q k = true) : l.countP q = l.countP p + 1 := by
  have hperm := List.perm_cons_erase hk
  have hrest : (l.erase k).countP q = (l.erase k).countP p := List.countP_congr fun j hj => by
    rw [hother j (hl.mem_erase_iff.mp hj).1]
  rw [hperm.countP_eq, hperm.countP_eq, List.countP_cons_of_pos hq, List.countP_cons_of_neg (by simp [hp]), hrest]

theorem State.outboundSlot_spec {s : State} {k : SlotId} (h : s.outboundSlot = some k) :
    s.countSlots Slot.isOutbound < 32 ∧ s.slot k = .free := by
  refine ⟨?_, (State.freeSlot_spec (State.outboundSlot_free h)).1⟩
  unfold State.outboundSlot at h
  split at h
  · next hcount => exact hcount
  · cases h

theorem State.outboundCount_fill {s : State} {k : SlotId} (hk : s.slot k = .free) (d : Dest) (urgent : Bool)
    (payload : List Byte) :
    (s.fillOutbound k d urgent payload).countSlots Slot.isOutbound = s.countSlots Slot.isOutbound + 1 := by
  refine countP_one_more allSlots_nodup (mem_allSlots k) (fun j hj => ?_) ?_ ?_
  · rw [State.slot_fillOutbound, if_neg hj]
  · rw [hk]
    rfl
  · rw [State.slot_fillOutbound, if_pos rfl]
    rfl

theorem StoreMove.keeps_outboundCapped {s t : State} (h : StoreMove s t) (hs : outboundCapped s) : outboundCapped t := by
  rcases h.tickets with ⟨hsame, -⟩ | ⟨k, d, urgent, payload, hk, rfl⟩
  · unfold outboundCapped
    rwa [State.outboundCount_eq hsame]
  · obtain ⟨hcount, hfree⟩ := State.outboundSlot_spec hk
    unfold outboundCapped
    rw [State.outboundCount_fill hfree]
    omega

/-! ### The ticket counter (R87) -/

theorem nextTicket_ticketAfter (t : Ticket) (n : Nat) : nextTicket (ticketAfter t n) = ticketAfter t (n + 1) := rfl

theorem ticketAfter_succ' (t : Ticket) (n : Nat) : ticketAfter (nextTicket t) n = ticketAfter t (n + 1) := by
  induction n with
  | zero => rfl
  | succ n ih => rw [← nextTicket_ticketAfter, ih, nextTicket_ticketAfter]

/-- The counter's values are the tickets in their order: never 0, and different within 65535 steps (R87). -/
theorem toNat_ticketAfter {t : Ticket} (ht : t ≠ 0#16) (n : Nat) :
    (ticketAfter t n).toNat = (t.toNat - 1 + n) % 65535 + 1 := by
  have hpos : t.toNat ≠ 0 := fun h => ht (BitVec.eq_of_toNat_eq h)
  have hlt := t.isLt
  induction n with
  | zero =>
    show t.toNat = _
    omega
  | succ n ih =>
    show (if ticketAfter t n = 65535#16 then 1#16 else ticketAfter t n + 1).toNat = _
    split
    · next h =>
      rw [h] at ih
      simp only [BitVec.toNat_ofNat] at ih ⊢
      omega
    · next h =>
      have hne : (ticketAfter t n).toNat ≠ 65535 := fun h' => h (BitVec.eq_of_toNat_eq (by simpa using h'))
      have := (ticketAfter t n).isLt
      rw [BitVec.toNat_add, show (1 : Ticket).toNat = 1 from rfl]
      omega

theorem ticketAfter_succ_ne_zero (t : Ticket) (n : Nat) : ticketAfter t (n + 1) ≠ 0#16 := by
  have hone : nextTicket t ≠ 0#16 := by
    unfold nextTicket
    split
    · decide
    · bv_omega
  rw [← ticketAfter_succ']
  intro h
  have := toNat_ticketAfter hone n
  rw [h] at this
  simp at this

theorem ticketAfter_injective (t : Ticket) {m n : Nat} (hm : m < 65535) (hn : n < 65535)
    (h : ticketAfter t m = ticketAfter t n) : m = n := by
  have hinj : ∀ {u : Ticket} {i j : Nat}, u ≠ 0#16 → i < 65535 → j < 65535 → ticketAfter u i = ticketAfter u j → i = j := by
    intro u i j hu hi hj h
    have h' := congrArg BitVec.toNat h
    rw [toNat_ticketAfter hu, toNat_ticketAfter hu] at h'
    omega
  by_cases ht : t = 0#16
  · subst ht
    match m, n with
    | 0, 0 => rfl
    | 0, n + 1 => exact absurd h.symm (ticketAfter_succ_ne_zero _ n)
    | m + 1, 0 => exact absurd h (ticketAfter_succ_ne_zero _ m)
    | m + 1, n + 1 =>
      rw [← ticketAfter_succ', ← ticketAfter_succ'] at h
      rw [hinj (u := nextTicket 0#16) (by decide) (by omega) (by omega) h]
  · exact hinj ht hm hn h

/-- The counter goes on past the live tickets, and stops at the first that is not live, or at its last step (R87). -/
theorem advanceTicket_spec (live : Ticket → Bool) (n : Nat) (t : Ticket) :
    ∃ m, m ≤ n ∧ advanceTicket live n t = ticketAfter t (m + 1) ∧ (∀ i, i < m → live (ticketAfter t (i + 1)) = true) ∧
      (m < n → live (ticketAfter t (m + 1)) = false) := by
  induction n generalizing t with
  | zero => exact ⟨0, Nat.le_refl _, rfl, fun i hi => absurd hi (Nat.not_lt_zero i), fun h => absurd h (Nat.lt_irrefl _)⟩
  | succ n ih =>
    unfold advanceTicket
    split
    · next hlive =>
      obtain ⟨m, hm, heq, hbefore, hafter⟩ := ih (nextTicket t)
      refine ⟨m + 1, Nat.succ_le_succ hm, ?_, fun i hi => ?_, fun h => ?_⟩
      · rw [heq, ticketAfter_succ']
      · cases i with
        | zero => exact hlive
        | succ i =>
          rw [← ticketAfter_succ']
          exact hbefore i (Nat.lt_of_succ_lt_succ hi)
      · rw [← ticketAfter_succ']
        exact hafter (Nat.lt_of_succ_lt_succ h)
    · next hlive =>
      exact ⟨0, Nat.zero_le _, rfl, fun i hi => absurd hi (Nat.not_lt_zero i), fun _ => Bool.eq_false_iff.mpr hlive⟩

theorem State.ticketLive_iff {s : State} {t : Ticket} : s.ticketLive t = true ↔ ∃ k, (s.slot k).ticket? = some t := by
  simp only [State.ticketLive, List.any_eq_true, Slot.ticket?]
  constructor
  · rintro ⟨k, -, hk⟩
    cases hc : (s.slot k).parcel with
    | none => simp [hc] at hk
    | some c => exact ⟨k, by simpa [hc] using hk⟩
  · rintro ⟨k, hk⟩
    refine ⟨k, mem_allSlots k, ?_⟩
    cases hc : (s.slot k).parcel with
    | none => simp [hc] at hk
    | some c => simpa [hc] using hk

/-- Different live tickets are at most as many as the outbound slots. -/
theorem State.live_le_outbound {s : State} {l : List Ticket} (hl : l.Nodup) (hlive : ∀ t ∈ l, s.ticketLive t = true) :
    l.length ≤ s.countSlots Slot.isOutbound := by
  have hsub : l ⊆ allSlots.filterMap fun k => (s.slot k).ticket? := fun t ht => by
    obtain ⟨k, hk⟩ := State.ticketLive_iff.mp (hlive t ht)
    exact List.mem_filterMap.mpr ⟨k, mem_allSlots k, hk⟩
  have hcount : (allSlots.filterMap fun k => (s.slot k).ticket?).length = s.countSlots Slot.isOutbound := by
    rw [List.length_filterMap_eq_countP]
    exact List.countP_congr fun k _ => by rw [Slot.isOutbound_eq]
  rw [← hcount]
  exact (hl.subperm hsub).length_le

/-- A fill leaves the counter at the first value after the ticket taken that no live parcel carries (R87). -/
theorem ticketAdvanced_fill {s : State} {k : SlotId} (hk : s.outboundSlot = some k) (d : Dest) (urgent : Bool)
    (payload : List Byte) : ticketAdvanced s (s.fillOutbound k d urgent payload) := by
  obtain ⟨hcount, hfree⟩ := State.outboundSlot_spec hk
  generalize ht' : s.fillOutbound k d urgent payload = t
  have hlive : t.ticketLive = (s.withSlot k (.waiting ⟨s.ticket, d, urgent, payload, false⟩)).ticketLive := by
    rw [← ht']
    rfl
  have hadvance : t.ticket = advanceTicket t.ticketLive 32 s.ticket := by
    rw [hlive, ← ht']
    rfl
  obtain ⟨m, hm, heq, hbefore, hafter⟩ := advanceTicket_spec t.ticketLive 32 s.ticket
  rw [← hadvance] at heq
  refine ⟨m, heq, ?_, fun i hi => hbefore i hi⟩
  rw [heq]
  rcases Nat.lt_or_eq_of_le hm with hlt | rfl
  · exact hafter hlt
  · exfalso
    have htaken : t.ticketLive s.ticket = true := by
      refine State.ticketLive_iff.mpr ⟨k, ?_⟩
      rw [← ht', State.slot_fillOutbound, if_pos rfl]
      rfl
    have hnodup : ((List.range 33).map (ticketAfter s.ticket)).Nodup := by
      refine List.Nodup.map_on (fun i hi j hj h => ?_) List.nodup_range
      rw [List.mem_range] at hi hj
      exact ticketAfter_injective _ (by omega) (by omega) h
    have hall : ∀ x ∈ (List.range 33).map (ticketAfter s.ticket), t.ticketLive x = true := by
      intro x hx
      obtain ⟨i, hi, rfl⟩ := List.mem_map.mp hx
      rw [List.mem_range] at hi
      cases i with
      | zero => exact htaken
      | succ i => exact hbefore i (by omega)
    have := State.live_le_outbound hnodup hall
    rw [List.length_map, List.length_range, ← ht', State.outboundCount_fill hfree] at this
    omega

theorem StoreMove.keeps_ticketFresh {s t : State} (h : StoreMove s t) (hs : ticketFresh s) : ticketFresh t := by
  obtain ⟨hzero, hfresh⟩ := hs
  rcases h.tickets with ⟨hsame, hticket⟩ | ⟨k, d, urgent, payload, hk, rfl⟩
  · refine ⟨hticket ▸ hzero, Bool.eq_false_iff.mpr fun hlive => ?_⟩
    obtain ⟨k, hk⟩ := State.ticketLive_iff.mp hlive
    rw [hsame, hticket] at hk
    exact Bool.eq_false_iff.mp hfresh (State.ticketLive_iff.mpr ⟨k, hk⟩)
  · obtain ⟨n, heq, hnot, -⟩ := ticketAdvanced_fill hk d urgent payload
    exact ⟨heq ▸ ticketAfter_succ_ne_zero _ _, hnot⟩

/-! ### The delivered list (R90) -/

theorem StoreMove.keeps_deliveredMatches {s t : State} (h : StoreMove s t) (hs : deliveredMatches s) : deliveredMatches t := by
  intro j
  rcases h.slots_cases with ⟨hmoved, hdelivered, -⟩ | ⟨k, d, urgent, payload, hk, rfl⟩ | ⟨k, p, origin, payload, hk, rfl⟩
  · rw [hdelivered, Slot.moved_isDelivered (hmoved j)]
    exact hs j
  · rw [show (s.fillOutbound k d urgent payload).delivered = s.delivered by simp, State.slot_fillOutbound, hs j]
    by_cases hj : j = k
    · rw [if_pos hj, hj, (State.outboundSlot_spec hk).2]
      rfl
    · rw [if_neg hj]
  · show (s.delivered ++ [k]).count j = _
    rw [State.slot_accept, List.count_append, hs j]
    by_cases hj : j = k
    · rw [if_pos hj, hj, (State.freeSlot_spec hk).1]
      simp [Slot.isDelivered]
    · rw [if_neg hj, List.count_singleton, if_neg (c := (k == j) = true) (by simpa using Ne.symm hj), Nat.add_zero]

/-! ### The report list (R180, R185) -/

/-- The slots of the outcome entries, read off the entries that are no notices. -/
theorem count_outcome (l : List ReportEntry) (k : SlotId) :
    l.count (ReportEntry.outcome k) = (l.filter fun e => !e.isNotice).count (ReportEntry.outcome k) :=
  (List.count_filter (p := fun e : ReportEntry => !e.isNotice) rfl).symm

/-- What setting an outcome does to slot and list together: nothing, or one entry for a slot that becomes DONE (R92, R182). -/
theorem reportMatches_setOutcome {s : State} (k : SlotId) (o : ParcelOutcome) (hs : reportMatches s) :
    reportMatches (s.setOutcome k o) := by
  by_cases hc : ∃ c, s.outstanding k c
  · obtain ⟨c, hc⟩ := hc
    obtain ⟨hnotices, hcount⟩ := hs
    have hdone : (s.slot k).isDone = false := by rcases hc with hc | hc <;> rw [hc] <;> rfl
    rw [State.setOutcome_of_outstanding hc]
    refine ⟨by simpa [noticeCount, List.countP_append] using hnotices, fun j => ?_⟩
    show (s.report ++ [ReportEntry.outcome k]).count (ReportEntry.outcome j) = if ((s.withSlot k (.done c o)).slot j).isDone then 1 else 0
    rw [List.count_append, hcount j, State.slot_withSlot]
    by_cases hj : j = k
    · rw [if_pos hj, hj, hdone]
      simp [Slot.isDone]
    · rw [if_neg hj, List.count_singleton, if_neg (c := (ReportEntry.outcome k == .outcome j) = true)
        (by simpa using Ne.symm hj), Nat.add_zero]
  · have hsame : s.setOutcome k o = s := by
      unfold State.setOutcome
      split
      · next c h => exact absurd ⟨c, .inl h⟩ hc
      · next c h => exact absurd ⟨c, .inr h⟩ hc
      · rfl
    rwa [hsame]

theorem reportMatches_of_slots {s t : State} (hslots : ∀ j, (t.slot j).isDone = (s.slot j).isDone) (hreport : t.report = s.report)
    (hs : reportMatches s) : reportMatches t := by
  unfold reportMatches
  simp only [hreport, hslots]
  exact hs

theorem reportMatches_raise {s : State} (kind : NoticeKind) (peer : Option StationId) (hs : reportMatches s) :
    reportMatches (s.raise kind peer) := by
  refine ⟨noticeCount_reportWithNotice _ _ _ hs.1, fun k => ?_⟩
  rw [State.raise_report, count_outcome, outcomes_reportWithNotice, ← count_outcome]
  exact hs.2 k

theorem StoreMove.keeps_reportMatches {s t : State} (h : StoreMove s t) (hs : reportMatches s) : reportMatches t := by
  cases h with
  | other hslots _ _ hreport => exact reportMatches_of_slots (fun j => by rw [State.slot_congr hslots]) hreport hs
  | raise kind peer => exact reportMatches_raise kind peer hs
  | outcome k o => exact reportMatches_setOutcome k o hs
  | toInFlight k =>
    refine reportMatches_of_slots (fun j => ?_) (by simp) hs
    rw [State.slot_toInFlight]
    split
    · next hj => subst hj; cases s.slot j <;> rfl
    · rfl
  | toWaiting k =>
    refine reportMatches_of_slots (fun j => ?_) (by simp) hs
    rw [State.slot_toWaiting]
    split
    · next hj => subst hj; cases s.slot j <;> rfl
    · rfl
  | markSent k =>
    refine reportMatches_of_slots (fun j => ?_) (by simp) hs
    rw [State.slot_markSent]
    split
    · next hj => subst hj; cases s.slot j <;> rfl
    · rfl
  | fill k d urgent payload hk =>
    refine reportMatches_of_slots (fun j => ?_) (by simp) hs
    rw [State.slot_fillOutbound]
    split
    · next hj =>
      rw [hj, (State.outboundSlot_spec hk).2]
      rfl
    · rfl
  | accept k p origin payload hk =>
    refine reportMatches_of_slots (fun j => ?_) (by simp) hs
    rw [State.slot_accept]
    split
    · next hj =>
      rw [hj, (State.freeSlot_spec hk).1]
      rfl
    · rfl

/-! ### An entry taken from a list -/

theorem TakesEntry.keeps_outboundCapped {s t : State} (h : TakesEntry s t) (hs : outboundCapped s) : outboundCapped t := by
  have hle : t.countSlots Slot.isOutbound ≤ s.countSlots Slot.isOutbound := by
    refine List.countP_mono_left fun j _ hj => ?_
    cases h with
    | none => exact hj
    | fetch k rest p origin payload _ hk =>
      change ((s.withSlot k .free).slot j).isOutbound = true at hj
      rw [State.slot_withSlot] at hj
      split at hj
      · cases hj
      · exact hj
    | notice kind peer missed rest _ => exact hj
    | outcome k rest c o _ hk =>
      change ((s.withSlot k .free).slot j).isOutbound = true at hj
      rw [State.slot_withSlot] at hj
      split at hj
      · cases hj
      · exact hj
  exact hle.trans hs

theorem TakesEntry.keeps_ticketFresh {s t : State} (h : TakesEntry s t) (hs : ticketFresh s) : ticketFresh t := by
  obtain ⟨hzero, hfresh⟩ := hs
  have hfreed : ∀ {k : SlotId}, (s.withSlot k .free).ticketLive s.ticket = true → s.ticketLive s.ticket = true := by
    intro k hlive
    obtain ⟨j, hj⟩ := State.ticketLive_iff.mp hlive
    rw [State.slot_withSlot] at hj
    split at hj
    · cases hj
    · exact State.ticketLive_iff.mpr ⟨j, hj⟩
  cases h with
  | none => exact ⟨hzero, hfresh⟩
  | fetch k rest p origin payload _ hk =>
    exact ⟨hzero, Bool.eq_false_iff.mpr fun hlive => Bool.eq_false_iff.mp hfresh (hfreed hlive)⟩
  | notice kind peer missed rest _ => exact ⟨hzero, hfresh⟩
  | outcome k rest c o _ hk =>
    exact ⟨hzero, Bool.eq_false_iff.mpr fun hlive => Bool.eq_false_iff.mp hfresh (hfreed hlive)⟩

/-- The head of a list whose entries stand for slots, one each, is taken and its slot freed. -/
theorem count_tail {α : Type} [BEq α] [LawfulBEq α] {a b : α} {l : List α} {m n : Nat} (h : (a :: l).count b = n)
    (ha : a = b → n = m + 1) (hb : a ≠ b → n = m) : l.count b = m := by
  by_cases hab : a = b
  · subst hab
    rw [List.count_cons_self, ha rfl] at h
    exact Nat.succ_injective h
  · rw [List.count_cons_of_ne hab, hb hab] at h
    exact h

theorem TakesEntry.keeps_deliveredMatches {s t : State} (h : TakesEntry s t) (hs : deliveredMatches s) : deliveredMatches t := by
  intro j
  cases h with
  | none => exact hs j
  | fetch k rest p origin payload hd hk =>
    show rest.count j = if ((s.withSlot k .free).slot j).isDelivered then 1 else 0
    have hj := hs j
    rw [hd] at hj
    refine count_tail hj (fun h => ?_) (fun h => ?_)
    · rw [← h, hk, State.slot_withSlot_same]
      rfl
    · rw [State.slot_withSlot_ne _ _ (Ne.symm h)]
  | notice kind peer missed rest _ => exact hs j
  | outcome k rest c o _ hk =>
    show s.delivered.count j = if ((s.withSlot k .free).slot j).isDelivered then 1 else 0
    rw [hs j, State.slot_withSlot]
    by_cases hj : j = k
    · rw [if_pos hj, hj, hk]
      rfl
    · rw [if_neg hj]

theorem TakesEntry.keeps_reportMatches {s t : State} (h : TakesEntry s t) (hs : reportMatches s) : reportMatches t := by
  obtain ⟨hnotices, hcount⟩ := hs
  cases h with
  | none => exact ⟨hnotices, hcount⟩
  | fetch k rest p origin payload _ hk =>
    refine ⟨hnotices, fun j => ?_⟩
    show s.report.count (.outcome j) = if ((s.withSlot k .free).slot j).isDone then 1 else 0
    rw [hcount j, State.slot_withSlot]
    by_cases hj : j = k
    · rw [if_pos hj, hj, hk]
      rfl
    · rw [if_neg hj]
  | notice kind peer missed rest hr =>
    rw [hr] at hnotices hcount
    refine ⟨?_, fun j => ?_⟩
    · show noticeCount rest ≤ 16
      simp only [noticeCount, List.countP_cons] at hnotices ⊢
      omega
    · have hj := hcount j
      rwa [List.count_cons_of_ne (by simp)] at hj
  | outcome k rest c o hr hk =>
    rw [hr] at hnotices hcount
    refine ⟨?_, fun j => ?_⟩
    · show noticeCount rest ≤ 16
      simp only [noticeCount, List.countP_cons] at hnotices ⊢
      omega
    · show rest.count (.outcome j) = if ((s.withSlot k .free).slot j).isDone then 1 else 0
      refine count_tail (hcount j) (fun h => ?_) (fun h => ?_)
      · rw [← ReportEntry.outcome.inj h, hk, State.slot_withSlot_same]
        rfl
      · rw [State.slot_withSlot_ne _ _ fun heq => h (by rw [heq])]

/-! ### O50 -/

theorem store_of_blocksReset (cfg : ConfigBlock) (reply : Reply) (port : Port) (low : Bool) (addr : StationId) (rate : Fin 4)
    (pending : List Instr) :
    outboundCapped (.blocksReset cfg reply port low addr rate pending) ∧
    ticketFresh (.blocksReset cfg reply port low addr rate pending) ∧
    deliveredMatches (.blocksReset cfg reply port low addr rate pending) ∧
    reportMatches (.blocksReset cfg reply port low addr rate pending) := by
  refine ⟨?_, ⟨by simp [State.blocksReset], Bool.eq_false_iff.mpr fun hlive => ?_⟩, fun k => ?_, Nat.zero_le _, fun k => ?_⟩
  · have : (State.blocksReset cfg reply port low addr rate pending).countSlots Slot.isOutbound = 0 :=
      List.countP_eq_zero.mpr fun k _ => by rw [State.slot_blocksReset]; simp [Slot.isOutbound]
    unfold outboundCapped
    omega
  · obtain ⟨k, hk⟩ := State.ticketLive_iff.mp hlive
    rw [State.slot_blocksReset] at hk
    cases hk
  · rw [State.slot_blocksReset]
    rfl
  · rw [State.slot_blocksReset]
    rfl

/-- A step keeps what every move of the store, an entry taken and a reset keep. -/
theorem step_keeps_store {I : State → Prop} (hmove : ∀ {s t}, StoreMove s t → I s → I t)
    (htake : ∀ {s t}, TakesEntry s t → I s → I t)
    (hresets : ∀ cfg reply port low addr rate pending, I (.blocksReset cfg reply port low addr rate pending)) {s t : State}
    (h : step s = .next t) : I s → I t :=
  step_keeps (fun h => h.moves.keep hmove) htake (fun _ _ _ _ _ _ _ _ => hresets ..) h

/-- Settles O50: each move of the store keeps each of the four, and so does an entry taken from a list. -/
theorem storeInvariants : Obligations.StoreInvariants := by
  intro s t h
  exact ⟨step_keeps_store StoreMove.keeps_outboundCapped TakesEntry.keeps_outboundCapped
      (fun _ _ _ _ _ _ _ => (store_of_blocksReset ..).1) h,
    step_keeps_store StoreMove.keeps_ticketFresh TakesEntry.keeps_ticketFresh
      (fun _ _ _ _ _ _ _ => (store_of_blocksReset ..).2.1) h,
    step_keeps_store StoreMove.keeps_deliveredMatches TakesEntry.keeps_deliveredMatches
      (fun _ _ _ _ _ _ _ => (store_of_blocksReset ..).2.2.1) h,
    step_keeps_store StoreMove.keeps_reportMatches TakesEntry.keeps_reportMatches
      (fun _ _ _ _ _ _ _ => (store_of_blocksReset ..).2.2.2) h⟩

/-! ### O55 -/

/-- A move leaves the delivered list and the outcome entries as they stand, with what it adds at their tails. -/
theorem StoreMove.lists {s t : State} (h : StoreMove s t) :
    s.delivered <+: t.delivered ∧
    (s.report.filter fun e => !e.isNotice) <+: (t.report.filter fun e => !e.isNotice) := by
  cases h with
  | other _ hdelivered _ hreport =>
    rw [hdelivered, hreport]
    exact ⟨List.prefix_rfl, List.prefix_rfl⟩
  | raise kind peer =>
    rw [State.raise_report, outcomes_reportWithNotice]
    exact ⟨List.prefix_rfl, List.prefix_rfl⟩
  | outcome k o =>
    rw [State.report_setOutcome, show (s.setOutcome k o).delivered = s.delivered by simp]
    refine ⟨List.prefix_rfl, ?_⟩
    split <;> simp
  | accept k p origin payload _ =>
    rw [show (s.accept k p origin payload).report = s.report by simp]
    exact ⟨List.prefix_append _ _, List.prefix_rfl⟩
  | _ => simp

theorem StoreMoves.lists {s t : State} (h : StoreMoves s t) :
    s.delivered <+: t.delivered ∧
    (s.report.filter fun e => !e.isNotice) <+: (t.report.filter fun e => !e.isNotice) := by
  induction h with
  | refl => exact ⟨List.prefix_rfl, List.prefix_rfl⟩
  | tail _ h ih => exact ⟨ih.1.trans h.lists.1, ih.2.trans h.lists.2⟩

theorem StoreMoves.slotsGo {s t : State} (h : StoreMoves s t) : slotsGo s t := by
  induction h with
  | refl => exact fun _ => mayBecome_refl _
  | tail _ h ih => exact slotsGo_trans ih h.slotsGo

/-- FETCH leaves every slot but the delivered list's head, and the report list (R93). -/
theorem slots_fetchHead (s : State) (tag : Byte) :
    ((s.fetchHead tag).report = s.report) ∧
    ∀ k, (s.fetchHead tag).slot k = s.slot k ∨
      ((s.fetchHead tag).slot k = .free ∧ (s.slot k).isDelivered = true ∧ s.delivered.head? = some k) := by
  unfold State.fetchHead
  split
  · exact ⟨rfl, fun _ => .inl rfl⟩
  · next k rest hd =>
    split
    · next p origin payload hk =>
      refine ⟨rfl, fun j => ?_⟩
      by_cases hj : j = k
      · subst hj
        exact .inr ⟨s.slot_withSlot_same j .free, by rw [hk]; rfl, by rw [hd]; rfl⟩
      · exact .inl (s.slot_withSlot_ne .free hj)
    · exact ⟨rfl, fun _ => .inl rfl⟩

/-- REPORT leaves every slot but that of the report list's head, and the delivered list (R94). -/
theorem slots_reportHead (s : State) (tag : Byte) :
    ((s.reportHead tag).delivered = s.delivered) ∧
    ∀ k, (s.reportHead tag).slot k = s.slot k ∨
      ((s.reportHead tag).slot k = .free ∧ (s.slot k).isDone = true ∧ s.report.head? = some (.outcome k)) := by
  unfold State.reportHead
  split
  · exact ⟨rfl, fun _ => .inl rfl⟩
  · exact ⟨rfl, fun _ => .inl rfl⟩
  · next k rest hr =>
    split
    · next c o hk =>
      refine ⟨rfl, fun j => ?_⟩
      by_cases hj : j = k
      · subst hj
        exact .inr ⟨s.slot_withSlot_same j .free, by rw [hk]; rfl, by rw [hr]; rfl⟩
      · exact .inl (s.slot_withSlot_ne .free hj)
    · exact ⟨rfl, fun _ => .inl rfl⟩

/-- Settles O55: every row but FETCH, REPORT and the resets is a row of moves of the store, and each move lets the slots go on and
adds to the lists at their tails. -/
theorem storeKeepsParcels : Obligations.StoreKeepsParcels := by
  intro c s t hreset h
  by_cases hfetch : ∃ tag, c = .fetch tag
  · obtain ⟨tag, rfl⟩ := hfetch
    cases h
    unfold State.execute
    split
    · obtain ⟨hreport, hslots⟩ := slots_fetchHead s.csnHigh tag
      refine ⟨fun k => ?_, fun hnot => absurd rfl (hnot tag), fun _ => by rw [hreport]; exact List.prefix_rfl⟩
      rcases hslots k with heq | ⟨hfree, hdelivered, hhead⟩
      · exact .inl (by rw [heq]; exact mayBecome_refl _)
      · exact .inr (.inl ⟨hfree, ⟨tag, rfl⟩, hdelivered, hhead⟩)
    · exact ⟨fun _ => .inl (mayBecome_refl _), fun _ => List.prefix_rfl, fun _ => List.prefix_rfl⟩
  · by_cases hreport : ∃ tag, c = .report tag
    · obtain ⟨tag, rfl⟩ := hreport
      cases h
      unfold State.execute
      split
      · obtain ⟨hdelivered, hslots⟩ := slots_reportHead s.csnHigh tag
        refine ⟨fun k => ?_, fun _ => by rw [hdelivered]; exact List.prefix_rfl, fun hnot => absurd rfl (hnot tag)⟩
        rcases hslots k with heq | ⟨hfree, hdone, hhead⟩
        · exact .inl (by rw [heq]; exact mayBecome_refl _)
        · exact .inr (.inr ⟨hfree, ⟨tag, rfl⟩, hdone, hhead⟩)
      · exact ⟨fun _ => .inl (mayBecome_refl _), fun _ => List.prefix_rfl, fun _ => List.prefix_rfl⟩
    · have hmoves := (exec_deeds hreset (fun tag hc => hfetch ⟨tag, hc⟩) (fun tag hc => hreport ⟨tag, hc⟩) h).moves
      exact ⟨fun k => .inl (hmoves.slotsGo k), fun _ => hmoves.lists.1, fun _ => hmoves.lists.2⟩

end Sys2Proof.Machine
end

section
/-!
PROOFS. Steps and resets: O1 to O4 and O54.
-/
namespace Sys2Proof.Machine

open Sys2Proof Sys2Proof.Safety

/-- Settles O1. -/
theorem stepRunsFrontCommand : Obligations.StepRunsFrontCommand :=
  ⟨fun s c rest h => by simp only [step, h], fun s h => by simp only [step, h]⟩

/-- Settles O2: the blocks are read off, the peer table and the slots entry by entry. -/
theorem resetState : Obligations.ResetState := by
  refine ⟨rfl, rfl, rfl, rfl, fun p => ?_, fun k => ?_, rfl, rfl, rfl, rfl, rfl, rfl, rfl, rfl, rfl⟩
  · rw [State.reset, State.peer_blocksReset]
    rfl
  · rw [State.reset, State.slot_blocksReset]

theorem Port.throughReset_eq (x : Port) : x.throughReset = if x = .idle then .idle else .ignoring := by
  cases x <;> rfl

/-- Settles O3: each reset leaves the blocks reset, with its own port, straps and configuration. -/
theorem resets : Obligations.Resets := by
  refine ⟨fun s addr rate => ⟨⟨_, rfl, rfl, rfl, ?_⟩, ⟨_, rfl, rfl, rfl, ?_⟩⟩, fun s tag addr rate htakes =>
    ⟨_, congrArg Host.Outcome.next (State.execute_of_takes htakes _), ?_, rfl, ?_⟩⟩
  · rw [Port.throughReset_eq]
    rfl
  · rw [Port.throughReset_eq]
    rfl
  · rfl
  · rfl

/-- Settles O54: every block at its reset values meets each invariant. -/
theorem invariantsAtReset : Obligations.InvariantsAtReset := by
  obtain ⟨hline, htransmit, hattempts⟩ := line_of_blocksReset .default .afterReset .idle false Config.resetStation Config.resetRate []
  obtain ⟨hcap, hticket, hdelivered, hreport⟩ :=
    store_of_blocksReset .default .afterReset .idle false Config.resetStation Config.resetRate []
  obtain ⟨hpeers, hwork⟩ := peers_of_blocksReset .default .afterReset .idle false Config.resetStation Config.resetRate []
  obtain ⟨hanswers, hlane, hsessions⟩ :=
    work_of_blocksReset .default .afterReset .idle false Config.resetStation Config.resetRate []
  have hconfig : configInRange State.reset := by
    unfold configInRange
    decide
  exact ⟨hline, htransmit, hattempts, hcap, hticket, hdelivered, hreport, hpeers, hwork, hanswers, hlane, hsessions, hconfig,
    parcelsHeldOnce_blocksReset ..⟩

/-! ### What does nothing: RSTN low, and a port that does not take the transaction (R17, R177) -/

section
variable {s : State}

theorem State.sampleIf_of_reset (h : s.inReset = true) (due : State → Bool) (b : Level) : s.sampleIf due b = s := by
  simp [State.sampleIf, h]

theorem State.frameCloses_of_reset (h : s.inReset = true) (m : Msg) : s.frameCloses m = s := by
  simp [State.frameCloses, h]

theorem exec_rowOf (m : Msg) : exec (rowOf m) s = .next (s.frameCloses m) := by
  cases m with
  | answer src dst subject code n => cases subject <;> rfl
  | _ => rfl

theorem exec_lineRow_of_reset (h : s.inReset = true) {c : Instr} (hc : isLineRow c = true) : exec c s = .next s := by
  cases c with
  | lineSample level => simp [exec, execLineSample, State.sample, h]
  | startPoint => simp [exec, execStartPoint, h]
  | breakoffEnd => simp [exec, execBreakoffEnd, h]
  | resynchronisation clocks => simp [exec, execResynchronisation, h]
  | lineQuiet => exact congrArg Host.Outcome.next (State.sampleIf_of_reset h _ _)
  | longQuiet => exact congrArg Host.Outcome.next (State.sampleIf_of_reset h _ _)
  | lineHeld => exact congrArg Host.Outcome.next (State.sampleIf_of_reset h _ _)
  | lineReleased => exact congrArg Host.Outcome.next (State.sampleIf_of_reset h _ _)
  | frameViolation level => exact congrArg Host.Outcome.next (State.sampleIf_of_reset h _ _)
  | openingMark => exact congrArg Host.Outcome.next (State.sampleIf_of_reset h _ _)
  | frameClose => exact congrArg Host.Outcome.next (State.sampleIf_of_reset h _ _)
  | lostContention => exact congrArg Host.Outcome.next (State.sampleIf_of_reset h _ _)
  | mismatch => exact congrArg Host.Outcome.next (State.sampleIf_of_reset h _ _)
  | sent => exact congrArg Host.Outcome.next (State.sampleIf_of_reset h _ _)
  | _ => cases hc

theorem State.execute_of_not_takes (h : ¬ takes s) (command : State → State) : s.execute command = s.csnHigh := by
  have : s.takesTransaction = false := by
    by_contra hne
    simp only [State.takesTransaction, Bool.not_eq_false, Bool.and_eq_true, Bool.not_eq_true', decide_eq_true_eq] at hne
    exact h hne
  simp [State.execute, this]

theorem exec_transactionEnd_of_not_takes (h : ¬ takes s) {c : Instr} (hc : isTransactionEnd c = true) (hw : c.wellFormed = true) :
    exec c s = .next s.csnHigh := by
  cases c with
  | incompleteTransaction bytes =>
    simp only [Instr.wellFormed, Bool.not_eq_true'] at hw
    simp [exec, execIncompleteTransaction, hw]
  | badCommand tag code args =>
    simp only [Instr.wellFormed, Bool.and_eq_true, Bool.not_eq_true', decide_eq_true_eq] at hw
    simp [exec, execBadCommand, hw, State.execute_of_not_takes h]
  | post tag dest priority payload => simp [exec, execPost, State.execute_of_not_takes h]
  | nop tag => exact congrArg Host.Outcome.next (State.execute_of_not_takes h _)
  | status tag => exact congrArg Host.Outcome.next (State.execute_of_not_takes h _)
  | peer tag number => exact congrArg Host.Outcome.next (State.execute_of_not_takes h _)
  | configure tag a b c d e => exact congrArg Host.Outcome.next (State.execute_of_not_takes h _)
  | join tag => exact congrArg Host.Outcome.next (State.execute_of_not_takes h _)
  | leave tag => exact congrArg Host.Outcome.next (State.execute_of_not_takes h _)
  | resume tag => exact congrArg Host.Outcome.next (State.execute_of_not_takes h _)
  | restart tag addr rate => exact congrArg Host.Outcome.next (State.execute_of_not_takes h _)
  | cancel tag ticket => exact congrArg Host.Outcome.next (State.execute_of_not_takes h _)
  | fetch tag => exact congrArg Host.Outcome.next (State.execute_of_not_takes h _)
  | report tag => exact congrArg Host.Outcome.next (State.execute_of_not_takes h _)
  | _ => cases hc

end

/-- Settles O4: with RSTN low every line row and frame row finds the state unchanged, and a transaction not taken ends with CSN
high alone. -/
theorem nothingActs : Obligations.NothingActs := by
  refine ⟨fun s c hreset hc => ?_, fun s c hend hw hnot => exec_transactionEnd_of_not_takes hnot hend hw⟩
  rcases hc with hline | ⟨m, rfl⟩ | ⟨m, rfl⟩
  · exact exec_lineRow_of_reset hreset hline
  · exact congrArg Host.Outcome.next (State.frameCloses_of_reset hreset _)
  · rw [exec_rowOf, State.frameCloses_of_reset hreset]

end Sys2Proof.Machine
end

section
/-!
PROOFS. O57 and O58: the bytes of host rows, and the content bits of frames with their CRC.
-/
namespace Sys2Proof.Machine

open Sys2Proof Sys2Proof.Safety

/-! ### Host rows (R161, Table 11-6) -/

/-- The row as the port reads it: RESTART with the straps as they stand (log 10). -/
def strapped (addr : StationId) (rate : Fin 4) : Instr → Instr
  | .restart tag _ _ => .restart tag addr rate
  | i => i

/-- The bytes of a row that is a complete transaction are read back as the row, whatever filler follows (R161). -/
theorem decodeTransaction_of_encode {i : Instr} {bytes : List Byte} (hw : i.wellFormed = true)
    (hi : encodeTransaction i = some bytes) (hcomplete : ∀ b, i ≠ .incompleteTransaction b) (addr : StationId) (rate : Fin 4)
    (filler : List Byte) : decodeTransaction addr rate (bytes ++ filler) = strapped addr rate i := by
  cases i with
  | incompleteTransaction b => exact absurd rfl (hcomplete b)
  | badCommand tag code args =>
    simp only [Instr.wellFormed, Bool.and_eq_true, Bool.not_eq_true', decide_eq_true_eq] at hw
    cases hi
    rw [decodeTransaction_transactionBytes hw.2]
    exact decodeCommand_of_refused hw.2 hw.1 addr rate tag
  | post tag dest priority payload =>
    simp only [Instr.wellFormed, decide_eq_true_eq] at hw
    cases hi
    rw [decodeTransaction_transactionBytes (Nat.le_trans (by simp) hw)]
    rfl
  | cancel tag ticket =>
    cases hi
    rw [decodeTransaction_transactionBytes (by simp)]
    have hticket : ticket.extractLsb' 8 8 ++ ticket.extractLsb' 0 8 = ticket :=
      (BitVec.extractLsb'_append_extractLsb'_eq_extractLsb' rfl).trans BitVec.extractLsb'_eq_self
    show Instr.cancel tag (ticket.extractLsb' 8 8 ++ ticket.extractLsb' 0 8) = .cancel tag ticket
    rw [hticket]
  | nop tag => cases hi; exact decodeTransaction_transactionBytes (by simp) ..
  | status tag => cases hi; exact decodeTransaction_transactionBytes (by simp) ..
  | peer tag n => cases hi; exact decodeTransaction_transactionBytes (by simp) ..
  | configure tag a b c d e => cases hi; exact decodeTransaction_transactionBytes (by simp) ..
  | join tag => cases hi; exact decodeTransaction_transactionBytes (by simp) ..
  | leave tag => cases hi; exact decodeTransaction_transactionBytes (by simp) ..
  | resume tag => cases hi; exact decodeTransaction_transactionBytes (by simp) ..
  | restart tag addr' rate' => cases hi; exact decodeTransaction_transactionBytes (by simp) ..
  | fetch tag => cases hi; exact decodeTransaction_transactionBytes (by simp) ..
  | report tag => cases hi; exact decodeTransaction_transactionBytes (by simp) ..
  | _ => cases hi

theorem decodeTransaction_of_incomplete {bytes : List Byte} (h : transactionComplete bytes = false) (addr : StationId) (rate : Fin 4) :
    decodeTransaction addr rate bytes = .incompleteTransaction bytes := by
  match bytes with
  | [] | [_] | [_, _] => rfl
  | tag :: code :: n :: rest => simp only [decodeTransaction, h, Bool.false_eq_true, if_false]

/-- Settles O57: every row that is a complete transaction is read back, and the rest is INCOMPLETE_TRANSACTION. -/
theorem hostBytesRoundTrip : Obligations.HostBytesRoundTrip := by
  intro i bytes filler addr rate hw hi
  refine ⟨fun b hb => ?_, fun tag addr' rate' hrestart => ?_, fun hcomplete hrestart => ?_⟩
  · subst hb
    simp only [Instr.wellFormed, Bool.not_eq_true'] at hw
    cases hi
    exact decodeTransaction_of_incomplete hw addr rate
  · subst hrestart
    exact decodeTransaction_of_encode hw hi nofun addr rate filler
  · rw [decodeTransaction_of_encode hw hi hcomplete]
    cases i with
    | restart tag addr' rate' => exact absurd rfl (hrestart tag addr' rate')
    | _ => rfl

/-! ### Bits and fields (R18) -/

theorem bitsOf_length (w n : Nat) : (bitsOf w n).length = w := by
  induction w with
  | zero => rfl
  | succ w ih => simp [bitsOf, ih]

theorem natOf_cons (b : Bool) (bits : List Bool) : natOf (b :: bits) = b.toNat * 2 ^ bits.length + natOf bits := by
  have hfold : ∀ (l : List Bool) (a : Nat), l.foldl (fun a b => 2 * a + b.toNat) a = a * 2 ^ l.length + natOf l := by
    intro l
    induction l with
    | nil => intro a; simp [natOf]
    | cons c l ih =>
      intro a
      rw [natOf, List.foldl_cons, List.foldl_cons, ih, ih, List.length_cons]
      ring
  rw [natOf, List.foldl_cons, hfold]
  simp

/-- A field read back as a number is the number, where the field is wide enough. -/
theorem natOf_bitsOf (w n : Nat) : natOf (bitsOf w n) = n % 2 ^ w := by
  induction w with
  | zero => simp [bitsOf, natOf, Nat.mod_one]
  | succ w ih => rw [bitsOf, natOf_cons, ih, bitsOf_length, Nat.mod_pow_succ, Nat.toNat_testBit, Nat.add_comm, Nat.mul_comm]

theorem bitsOf_eq_map (w n : Nat) : bitsOf w n = (List.range w).map fun i => n.testBit (w - 1 - i) := by
  induction w with
  | zero => rfl
  | succ w ih =>
    rw [bitsOf, ih, List.range_succ_eq_map, List.map_cons, List.map_map]
    refine congrArg₂ _ rfl (List.map_congr_left fun i _ => ?_)
    show n.testBit (w - 1 - i) = n.testBit (w - (i + 1))
    congr 1
    omega

theorem bytesBits_length (bytes : List Byte) : (bytesBits bytes).length = 8 * bytes.length := by
  induction bytes with
  | nil => rfl
  | cons b bytes ih =>
    rw [bytesBits, List.flatMap_cons, List.length_append, bitsOf_length, ← bytesBits, ih, List.length_cons]
    omega

/-- Bytes written as bits, most significant first, are read back as the bytes (Table 11-1). -/
theorem bytesOf_bytesBits (bytes : List Byte) (rest : List Bool) : bytesOf bytes.length (bytesBits bytes ++ rest) = bytes := by
  induction bytes with
  | nil => rfl
  | cons b bytes ih =>
    have hb : BitVec.ofNat 8 (natOf (bitsOf 8 b.toNat)) = b := by
      rw [natOf_bitsOf, Nat.mod_eq_of_lt b.isLt, BitVec.ofNat_toNat, BitVec.setWidth_eq]
    rw [bytesBits, List.flatMap_cons, ← bytesBits, List.append_assoc, List.length_cons, bytesOf,
      List.take_left' (bitsOf_length ..), List.drop_left' (bitsOf_length ..), ih, hb]

/-- The first field of content bits. -/
theorem fieldAt_here (w : Nat) {n : Nat} (h : n < 2 ^ w) (rest : List Bool) : fieldAt (bitsOf w n ++ rest) 0 w = n := by
  rw [fieldAt, List.drop_zero, List.take_left' (bitsOf_length ..), natOf_bitsOf, Nat.mod_eq_of_lt h]

/-- A field behind the first one. -/
theorem fieldAt_behind (k n off w : Nat) (rest : List Bool) : fieldAt (bitsOf k n ++ rest) (k + off) w = fieldAt rest off w := by
  rw [fieldAt, fieldAt, ← List.drop_drop, List.drop_left' (bitsOf_length ..)]

/-! ### The content of a frame (R18, R20, R21) -/

section
variable {f : Frame}

/-- The content field by field (Table 11-1). -/
theorem content_eq (f : Frame) : f.content =
    bitsOf 2 f.cls.val ++ (bitsOf 5 f.src.val ++ (bitsOf 6 f.dst.val ++ (bitsOf 3 f.kind.val ++ (bitsOf 3 f.seq.val ++
      (bitsOf 7 f.payload.length ++ (bytesBits f.payload ++ bitsOf 16 (crcOf f.bodyBits).toNat)))))) := by
  simp only [Frame.content, Frame.bodyBits, Frame.headerBits, List.append_assoc]

theorem content_length (f : Frame) : f.content.length = 42 + 8 * f.payload.length := by
  simp only [content_eq, List.length_append, bitsOf_length, bytesBits_length]
  omega

theorem content_body (f : Frame) : f.content.take (f.content.length - 16) = f.bodyBits := by
  rw [Frame.content, List.length_append, bitsOf_length, Nat.add_sub_cancel, List.take_left]

theorem content_crc (f : Frame) : natOf (f.content.drop (f.content.length - 16)) = (crcOf f.bodyBits).toNat := by
  rw [Frame.content, List.length_append, bitsOf_length, Nat.add_sub_cancel, List.drop_left, natOf_bitsOf,
    Nat.mod_eq_of_lt (crcOf f.bodyBits).isLt]

/-- The length field of a content holds the payload's length (R18). -/
theorem content_lengthField (h : f.payload.length < 128) : fieldAt f.content 19 7 = f.payload.length := by
  rw [content_eq, fieldAt_behind 2 _ 17, fieldAt_behind 5 _ 12, fieldAt_behind 6 _ 6, fieldAt_behind 3 _ 3, fieldAt_behind 3 _ 0,
    fieldAt_here 7 h]

/-- The content of a frame whose payload's length fits its field is read as the frame (Table 11-1). -/
theorem frameOfContent_content (h : f.payload.length < 128) : frameOfContent f.content = f := by
  have hcls : fieldAt f.content 0 2 = f.cls.val := by
    rw [content_eq, fieldAt_here 2 f.cls.isLt]
  have hsrc : fieldAt f.content 2 5 = f.src.val := by
    rw [content_eq, fieldAt_behind 2 _ 0, fieldAt_here 5 f.src.isLt]
  have hdst : fieldAt f.content 7 6 = f.dst.val := by
    rw [content_eq, fieldAt_behind 2 _ 5, fieldAt_behind 5 _ 0, fieldAt_here 6 f.dst.isLt]
  have hkind : fieldAt f.content 13 3 = f.kind.val := by
    rw [content_eq, fieldAt_behind 2 _ 11, fieldAt_behind 5 _ 6, fieldAt_behind 6 _ 0, fieldAt_here 3 f.kind.isLt]
  have hseq : fieldAt f.content 16 3 = f.seq.val := by
    rw [content_eq, fieldAt_behind 2 _ 14, fieldAt_behind 5 _ 9, fieldAt_behind 6 _ 3, fieldAt_behind 3 _ 0, fieldAt_here 3 f.seq.isLt]
  have hpayload : bytesOf (fieldAt f.content 19 7) (f.content.drop 26) = f.payload := by
    rw [content_lengthField h, Frame.content, Frame.bodyBits, List.append_assoc,
      List.drop_left' (by simp [Frame.headerBits, bitsOf_length]), bytesOf_bytesBits]
  rw [frameOfContent, hcls, hsrc, hdst, hkind, hseq, hpayload]
  simp only [Fin.ofNat_val_eq_self]

end

/-! ### Frames read by their kind (Tables 2-2, 2-6 and 11-2) -/

theorem stationOf_stationDst (p : StationId) : stationOf (stationDst p) = some p := dif_pos p.isLt

theorem groupOf_groupDst (g : GroupId) : groupOf (groupDst g) = some g := by
  have h : 32 ≤ (groupDst g).val ∧ (groupDst g).val < 40 := ⟨Nat.le_add_right .., Nat.add_lt_add_left g.isLt 32⟩
  rw [groupOf, dif_pos h]
  exact congrArg some (Fin.ext (Nat.add_sub_cancel_left ..))

theorem urgentOf_dataClass (u : Bool) : urgentOf (dataClass u) = some u := by cases u <;> rfl

theorem subjectOf_answerByte (subject : Subject) (code : AnswerCode) :
    subjectOf ((answerByte subject code).toNat / 16) = some subject ∧
    answerCodeOf ((answerByte subject code).toNat % 16) = some code := by
  cases subject <;> cases code <;> exact ⟨rfl, rfl⟩

/-- The raw fields of a frame are read back by its kind. -/
theorem read_toFrame (m : Msg) : m.toFrame.read = some m := by
  cases m with
  | data u src dst q payload => simp [Msg.toFrame, Frame.read, urgentOf_dataClass, stationOf_stationDst]
  | group u src g q payload => simp [Msg.toFrame, Frame.read, urgentOf_dataClass, groupOf_groupDst]
  | answer src dst subject code n =>
    obtain ⟨hsubject, hcode⟩ := subjectOf_answerByte subject code
    simp [Msg.toFrame, Frame.read, stationOf_stationDst, hsubject, hcode]
  | openReq src dst q => simp [Msg.toFrame, Frame.read, stationOf_stationDst]
  | roll src q groups flags => simp [Msg.toFrame, Frame.read]

theorem payload_of_valid {m : Msg} (h : m.valid = true) : m.toFrame.payload.length ≤ 64 := by
  cases m with
  | data u src dst q payload =>
    simp only [Msg.valid, Bool.and_eq_true, decide_eq_true_eq] at h
    exact h.2
  | group u src g q payload => exact of_decide_eq_true h
  | _ => simp [Msg.toFrame]

/-- The closing checks give a frame of Table 2-6 back from its content (Table 2-5). -/
theorem checkClosed_content {m : Msg} (h : m.valid = true) :
    checkClosed false (crcOf m.toFrame.bodyBits) m.toFrame.content = some m := by
  have hlen : m.toFrame.payload.length < 128 := Nat.lt_of_le_of_lt (payload_of_valid h) (by decide)
  have hmin : ¬ m.toFrame.content.length < Config.minContent := by
    rw [content_length, Config.minContent]
    omega
  rw [checkClosed, if_neg Bool.false_ne_true, if_neg hmin, if_neg (by simpa using content_crc _), content_lengthField hlen,
    if_neg (by simpa using content_length _), frameOfContent_content hlen, Frame.check, read_toFrame]
  simp [h]

theorem crcStep_eq (acc : BitVec 16) (b : Bool) :
    crcStep acc b = if acc.getLsbD 15 ≠ b then (acc <<< 1) ^^^ 0x1021#16 else acc <<< 1 := by
  rw [crcStep, BitVec.msb_eq_getLsbD_last]
  simp

/-- Settles O58: the content is the fields in their order, and the closing checks read each field back. -/
theorem frameContentRoundTrip : Obligations.FrameContentRoundTrip := by
  refine ⟨fun m h => ⟨content_length _, ?_⟩, fun f => ?_, rfl, fun bits b => ⟨?_, fun acc => crcStep_eq acc b⟩⟩
  · rw [content_body, checkClosed_content h]
  · simp only [← bitsOf_eq_map]
    exact ⟨rfl, rfl⟩
  · rw [crcOf, List.foldl_append, ← crcOf]
    rfl

end Sys2Proof.Machine
end

section
/-!
PROOFS. O59 and O60: the stuffed content as runs of at most four equal bits, and the two blocks behind LIN that hear a frame driven
onto a QUIET line.
-/
namespace Sys2Proof.Machine

open Sys2Proof Sys2Proof.Safety

/-! ### Runs of at most four (R6, R7) -/

/-- No run of these bits is longer than four, the first one counted on from a run of `n` bits of value `v`. -/
def shortRuns (v : Level) (n : Nat) : List Level → Prop
  | [] => True
  | b :: bs => if b = v then n + 1 ≤ 4 ∧ shortRuns v (n + 1) bs else shortRuns b 1 bs

/-- The levels of stuffed content (R6). -/
def stuffedLevels (v : Level) (n : Nat) (bits : List Bool) : List Level := (stuffFrom v n bits).map (·.level)

/-- The run that a bit continues or begins. -/
def runOn (v : Level) (n : Nat) (b : Level) : Nat := if b = v then n + 1 else 1

theorem runOn_range {v b : Level} {n : Nat} (h1 : 1 ≤ n) (h3 : n ≤ 3) : 1 ≤ runOn v n b ∧ runOn v n b ≤ 4 := by
  unfold runOn
  split <;> omega

theorem stuffFrom_of_full {v b : Level} {n : Nat} (h : runOn v n b = 4) (bits : List Bool) :
    stuffFrom v n (b :: bits) = ⟨b, true⟩ :: ⟨!b, false⟩ :: stuffFrom (!b) 1 bits := if_pos h

theorem stuffFrom_of_short {v b : Level} {n : Nat} (h : runOn v n b ≠ 4) (bits : List Bool) :
    stuffFrom v n (b :: bits) = ⟨b, true⟩ :: stuffFrom b (runOn v n b) bits := if_neg h

theorem stuffedLevels_of_full {v b : Level} {n : Nat} (h : runOn v n b = 4) (bits : List Bool) :
    stuffedLevels v n (b :: bits) = b :: (!b) :: stuffedLevels (!b) 1 bits := by
  simp [stuffedLevels, stuffFrom_of_full h]

theorem stuffedLevels_of_short {v b : Level} {n : Nat} (h : runOn v n b ≠ 4) (bits : List Bool) :
    stuffedLevels v n (b :: bits) = b :: stuffedLevels b (runOn v n b) bits := by
  simp [stuffedLevels, stuffFrom_of_short h]

/-- A bit more keeps the runs short, where the run that it continues or begins is no longer than four. -/
theorem shortRuns_cons {v b : Level} {n : Nat} {bs : List Level} (hrun : runOn v n b ≤ 4) (h : shortRuns b (runOn v n b) bs) :
    shortRuns v n (b :: bs) := by
  unfold shortRuns
  unfold runOn at hrun h
  by_cases hb : b = v
  · subst hb
    rw [if_pos rfl] at hrun h ⊢
    exact ⟨hrun, h⟩
  · rwa [if_neg hb] at h ⊢

/-- Stuffed content has short runs, and one bit more after it keeps them short: a run that reaches four is ended by its stuff bit
(R6). -/
theorem shortRuns_stuffed (bits : List Bool) {v : Level} {n : Nat} (h1 : 1 ≤ n) (h3 : n ≤ 3) (last : Level) :
    shortRuns v n (stuffedLevels v n bits ++ [last]) := by
  induction bits generalizing v n with
  | nil => exact shortRuns_cons (runOn_range h1 h3).2 trivial
  | cons b bits ih =>
    obtain ⟨hpos, hmax⟩ := runOn_range (v := v) (b := b) h1 h3
    by_cases hfull : runOn v n b = 4
    · rw [stuffedLevels_of_full hfull]
      have hstuff : runOn b (runOn v n b) (!b) = 1 := by simp [runOn]
      refine shortRuns_cons hmax (shortRuns_cons (by omega) ?_)
      rw [hstuff]
      exact ih (Nat.le_refl 1) (by decide)
    · rw [stuffedLevels_of_short hfull]
      exact shortRuns_cons hmax (ih hpos (by omega))

/-- Short runs hold no five equal bits. -/
theorem no_five_of_shortRuns {l : List Level} {v : Level} {n : Nat} (hn : n ≤ 4) (h : shortRuns v n l) (before after : List Level)
    (b : Level) : List.replicate n v ++ l ≠ before ++ (List.replicate 5 b ++ after) := by
  induction l generalizing v n before with
  | nil =>
    intro heq
    have := congrArg List.length heq
    simp at this
    omega
  | cons x xs ih =>
    intro heq
    unfold shortRuns at h
    by_cases hx : x = v
    · rw [if_pos hx] at h
      subst hx
      refine ih h.1 h.2 before ?_
      rw [← heq, List.replicate_succ', List.append_assoc, List.singleton_append]
    · rw [if_neg hx] at h
      rcases List.append_eq_append_iff.mp heq with ⟨rest, -, hrest⟩ | ⟨front, hfront, hrest⟩
      · exact ih (by decide) h rest hrest
      · obtain ⟨-, -, hfront'⟩ := List.append_eq_replicate_iff.mp hfront.symm
        have hlen := congrArg List.length hfront
        simp only [List.length_append, List.length_replicate] at hlen
        rw [hfront'] at hrest
        have hat : b = x := by
          have := congrArg (·[front.length]?) hrest
          rw [List.getElem?_append_left (by simp; omega), List.getElem?_append_right (by simp),
            List.getElem?_replicate_of_lt (by omega)] at this
          simpa using this
        rcases Nat.eq_zero_or_pos front.length with hnil | hpos
        · rw [hnil] at hrest
          exact ih (by decide) h [] hrest.symm
        · have hfirst := congrArg (·[0]?) hrest
          rw [List.getElem?_append_left (by simp), List.getElem?_append_left (by simpa using hpos),
            List.getElem?_replicate_of_lt (by decide), List.getElem?_replicate_of_lt hpos] at hfirst
          have : b = v := Option.some.inj hfirst
          exact hx (hat.symm.trans this)

/-- The content bits of stuffed content are the content (R7). -/
theorem stuffFrom_content (bits : List Bool) (v : Level) (n : Nat) :
    ((stuffFrom v n bits).filter (·.isContent)).map (·.level) = bits := by
  induction bits generalizing v n with
  | nil => rfl
  | cons b bits ih =>
    by_cases hfull : runOn v n b = 4
    · simp [stuffFrom_of_full hfull, ih]
    · simp [stuffFrom_of_short hfull, ih]

/-- A stuff bit comes after three content bits at the earliest (R7). -/
theorem stuffFrom_length (bits : List Bool) {v : Level} {n : Nat} (h1 : 1 ≤ n) (h3 : n ≤ 3) :
    (stuffFrom v n bits).length ≤ bits.length + (bits.length + (n - 1)) / 3 := by
  induction bits generalizing v n with
  | nil => exact Nat.zero_le _
  | cons b bits ih =>
    obtain ⟨hpos, hmax⟩ := runOn_range (v := v) (b := b) h1 h3
    have hnext : runOn v n b ≤ n + 1 := by
      unfold runOn
      split <;> omega
    by_cases hfull : runOn v n b = 4
    · rw [stuffFrom_of_full hfull]
      have := ih (v := !b) (Nat.le_refl 1) (by decide)
      simp only [List.length_cons]
      omega
    · rw [stuffFrom_of_short hfull]
      have := ih (v := b) hpos (by omega)
      simp only [List.length_cons]
      omega

/-- Settles O59. -/
theorem stuffing : Obligations.Stuffing := by
  intro f
  refine ⟨fun before after b heq => ?_, stuffFrom_content _ _ _, ?_⟩
  · refine no_five_of_shortRuns (by decide) (shortRuns_stuffed f.content (v := dominant) (Nat.le_refl 1) (by decide) dominant) before
      (after ++ [dominant]) b ?_
    have := congrArg (· ++ [dominant]) heq
    simpa [stuffedLevels, Frame.stuffed] using this
  · have := stuffFrom_length f.content (v := dominant) (Nat.le_refl 1) (by decide)
    simp only [Frame.lineBits, Frame.stuffed, markBits, List.length_append, List.length_cons, List.length_replicate, List.length_nil]
    omega

/-! ### The Line Monitor hears no report in short runs and in six recessive bits (R11) -/

/-- No sample of these gives a report. -/
def silent (lm : LineMonitor) : List Level → Prop
  | [] => True
  | b :: bs => lm.reportOn b = none ∧ silent (lm.afterSample b) bs

theorem listen_append (x : LineMonitor × FrameReceiver) (l m : List Level) : listen x (l ++ m) = listen (listen x l) m := by
  induction l generalizing x with
  | nil => rfl
  | cons b l ih => exact ih _

/-- The Line Monitor after samples one after another. -/
def monitored (lm : LineMonitor) (bs : List Level) : LineMonitor := bs.foldl LineMonitor.afterSample lm

/-- The Frame Receiver after samples without a report, one after another. -/
def fed (fr : FrameReceiver) (bs : List Level) : FrameReceiver := bs.foldl (fun fr b => (fr.sample b none).1) fr

theorem listen_of_silent {lm : LineMonitor} {bs : List Level} (h : silent lm bs) (fr : FrameReceiver) :
    listen (lm, fr) bs = (monitored lm bs, fed fr bs) := by
  induction bs generalizing lm fr with
  | nil => rfl
  | cons b bs ih =>
    obtain ⟨hreport, hrest⟩ := h
    rw [Safety.listen, hreport, ih hrest]
    rfl

theorem silent_append {lm : LineMonitor} {l m : List Level} (hl : silent lm l) (hm : silent (monitored lm l) m) : silent lm (l ++ m) := by
  induction l generalizing lm with
  | nil => exact hm
  | cons b l ih => exact ⟨hl.1, ih hl.2 hm⟩

/-- In short runs no run reaches a length that Table 1-4 names. -/
theorem silent_of_shortRuns {lm : LineMonitor} {v : Level} {n : Nat} {bs : List Level} (hv : lm.polarity = some v)
    (hn : lm.runLength = n) (hmax : n ≤ 4) (h : shortRuns v n bs) : silent lm bs := by
  induction bs generalizing lm v n with
  | nil => trivial
  | cons b bs ih =>
    unfold shortRuns at h
    by_cases hb : b = v
    · subst hb
      rw [if_pos rfl] at h
      refine ⟨?_, ih rfl ?_ h.1 h.2⟩
      · rw [LineMonitor.reportOn, if_pos hv, if_neg (show ¬ (b = dominant ∧ lm.runLength + 1 = 5) by omega),
          if_neg (show ¬ (b = recessive ∧ lm.runLength + 1 = 7) by omega)]
      · show lm.runAfter b = n + 1
        rw [LineMonitor.runAfter_of_same hv, hn]
        omega
    · rw [if_neg hb] at h
      have hne : lm.polarity ≠ some b := fun h' => hb (Option.some.inj (h'.symm.trans hv))
      refine ⟨?_, ih rfl (LineMonitor.runAfter_of_new hne) (by decide) h⟩
      rw [LineMonitor.reportOn, if_neg hne, if_neg (show ¬ lm.runLength = 5 by omega), if_neg (show ¬ lm.runLength = 6 by omega)]
      split <;> rfl

/-- The record of a Line Monitor as far as its reports read it. -/
def LineMonitor.inRun (lm : LineMonitor) (v : Level) (n : Nat) : Prop :=
  lm.polarity = some v ∧ lm.runLength = n ∧ lm.firstRun = false

/-- Six recessive bits after a dominant one give no report, and the next dominant bit gives MARK (R5, R11). -/
theorem six_recessive {lm : LineMonitor} {n : Nat} (h : lm.inRun dominant n) :
    silent lm (List.replicate 6 recessive) ∧ (monitored lm (List.replicate 6 recessive)).inRun recessive 6 := by
  obtain ⟨hv, -, -⟩ := h
  simp [silent, monitored, List.replicate, LineMonitor.inRun, LineMonitor.afterSample, LineMonitor.reportOn, LineMonitor.runAfter,
    Config.heldLength, Config.recessiveLimit, hv]

theorem mark_after_six {lm : LineMonitor} (h : lm.inRun recessive 6) : lm.reportOn dominant = some .mark := by
  obtain ⟨hv, hrun, hfirst⟩ := h
  simp [LineMonitor.reportOn, hv, hrun, hfirst]

theorem inRun_dominant {lm : LineMonitor} (h : lm.inRun recessive 6) : (lm.afterSample dominant).inRun dominant 1 := by
  obtain ⟨hv, -, -⟩ := h
  simp [LineMonitor.inRun, LineMonitor.afterSample, LineMonitor.runAfter, hv]

theorem monitored_firstRun {lm : LineMonitor} (h : lm.firstRun = false) (bs : List Level) : (monitored lm bs).firstRun = false := by
  induction bs generalizing lm with
  | nil => exact h
  | cons b bs ih =>
    refine ih ?_
    simp [LineMonitor.afterSample, h]

theorem monitored_last (lm : LineMonitor) (bs : List Level) (b : Level) : (monitored lm (bs ++ [b])).polarity = some b := by
  rw [monitored, List.foldl_append]
  rfl

/-! ### The Frame Receiver takes the stuffed content (R26) -/

/-- In GATHER with this content so far, the CRC fed with all of it but the last 16 bits (R26). -/
def gathered (content : List Bool) (v : Level) (n : Nat) (due : Bool) (holdBack : List Level) : FrameReceiver :=
  { state := .gather, holdBack := holdBack, runValue := v, runCount := n, stuffDue := due, content := content,
    crc := crcOf (content.take (content.length - 16)) }

theorem prepared_eq : FrameReceiver.prepared = gathered [] dominant 1 false [] := rfl

/-- The bits that fill the hold-back are released by none (R26). -/
theorem fed_holdBack (c : List Bool) (v : Level) (n : Nat) (due : Bool) (xs h : List Level) (hlen : h.length + xs.length ≤ 7) :
    fed (gathered c v n due h) xs = gathered c v n due (h ++ xs) := by
  induction xs generalizing h with
  | nil => rw [List.append_nil]; rfl
  | cons x xs ih =>
    rw [List.length_cons] at hlen
    have hstep : ((gathered c v n due h).sample x none).1 = gathered c v n due (h ++ [x]) := by
      simp only [FrameReceiver.sample, gathered, FrameReceiver.gatherBit]
      split
      · next heq => simp at heq
      · next oldest rest heq =>
        have := congrArg List.length heq
        simp only [List.length_append, List.length_cons, List.length_nil] at this
        rw [if_neg (by simp only [Config.holdBack]; omega), heq]
    have := ih (h ++ [x]) (by simp; omega)
    rw [List.append_assoc, List.singleton_append] at this
    rw [← this, ← hstep]
    rfl

/-- With the hold-back full, one more bit releases its oldest (R26). -/
theorem fed_release (c : List Bool) (v : Level) (n : Nat) (due : Bool) {h xs q : List Level} {b : Level} (hlen : h.length = 7)
    (hq : h ++ xs = b :: q) (hmore : 7 ≤ q.length) :
    ∃ h' xs', h' ++ xs' = q ∧ h'.length = 7 ∧
      fed (gathered c v n due h) xs = fed ((gathered c v n due h').release b).1 xs' := by
  match h, xs with
  | [], _ => cases hlen
  | a :: h, [] =>
    have := congrArg List.length hq
    simp only [List.append_nil, List.length_cons] at this hlen
    omega
  | a :: h, x :: xs =>
    simp only [List.cons_append, List.cons.injEq] at hq
    obtain ⟨rfl, rfl⟩ := hq
    simp only [List.length_cons] at hlen
    refine ⟨h ++ [x], xs, by simp, by simp; omega, ?_⟩
    have hstep : ((gathered c v n due (a :: h)).sample x none).1 = ((gathered c v n due (h ++ [x])).release a).1 := by
      simp only [FrameReceiver.sample, gathered, FrameReceiver.gatherBit, List.cons_append]
      rw [if_pos (by simp only [Config.holdBack, List.length_append, List.length_cons, List.length_nil]; omega)]
    rw [← hstep]
    rfl

/-- A content bit that leaves the hold-back joins the content, and the CRC takes the bit that leaves the last 16 (R26). -/
theorem release_content {c : List Bool} (hc : c.length < 554) (v : Level) (n : Nat) (h : List Level) (b : Bool) :
    ((gathered c v n false h).release b).1 = gathered (c ++ [b]) b (runOn v n b) (decide (runOn v n b = 4)) h := by
  have hcrc : (if 16 ≤ c.length then crcStep (crcOf (c.take (c.length - 16))) (c.getD (c.length - 16) false)
      else crcOf (c.take (c.length - 16))) = crcOf ((c ++ [b]).take ((c ++ [b]).length - 16)) := by
    rw [List.length_append, List.length_singleton]
    split
    · next h16 =>
      rw [List.take_append_of_le_length (by omega), show c.length + 1 - 16 = c.length - 16 + 1 by omega,
        List.take_succ_eq_append_getElem (by omega), crcOf, crcOf, List.foldl_append, List.getD_eq_getElem _ _ (by omega)]
      rfl
    · next h16 =>
      rw [show c.length - 16 = 0 by omega, show c.length + 1 - 16 = 0 by omega, List.take_zero, List.take_zero]
  rw [FrameReceiver.release, if_neg (by simp [gathered]), if_neg (by simp only [gathered, Config.maxContent]; omega)]
  simp only [gathered]
  rw [← hcrc]
  rfl

/-- A stuff bit that leaves the hold-back is removed (R26). -/
theorem release_stuff (c : List Bool) (v : Level) (n : Nat) (h : List Level) :
    ((gathered c v n true h).release (!v)).1 = gathered c (!v) 1 false h := by
  simp [FrameReceiver.release, gathered]

/-- The stuffed content, with seven bits after it, is gathered with its stuff bits removed (R26). -/
theorem fed_stuffed (bits : List Bool) {c : List Bool} {v : Level} {n : Nat} {h xs tail : List Level} (h1 : 1 ≤ n) (h3 : n ≤ 3)
    (hroom : c.length + bits.length ≤ 554) (hlen : h.length = 7) (htail : tail.length = 7)
    (hq : h ++ xs = stuffedLevels v n bits ++ tail) :
    ∃ v' n', fed (gathered c v n false h) xs = gathered (c ++ bits) v' n' false tail := by
  induction bits generalizing c v n h xs with
  | nil =>
    have hq' : h ++ xs = tail := hq
    have := congrArg List.length hq'
    rw [List.length_append] at this
    obtain rfl := List.eq_nil_of_length_eq_zero (show xs.length = 0 by omega)
    rw [List.append_nil] at hq'
    exact ⟨v, n, by rw [hq', List.append_nil]; rfl⟩
  | cons b bits ih =>
    rw [List.length_cons] at hroom
    obtain ⟨hpos, hmax⟩ := runOn_range (v := v) (b := b) h1 h3
    have hroom' : (c ++ [b]).length + bits.length ≤ 554 := by simp; omega
    have hcontent : c ++ b :: bits = (c ++ [b]) ++ bits := by simp
    rw [hcontent]
    by_cases hfull : runOn v n b = 4
    · rw [stuffedLevels_of_full hfull, List.cons_append, List.cons_append] at hq
      obtain ⟨h', xs', hq', hlen', hfed⟩ := fed_release c v n false hlen hq (by simp; omega)
      rw [hfed, release_content (by omega), hfull]
      obtain ⟨h'', xs'', hq'', hlen'', hfed'⟩ := fed_release (c ++ [b]) b 4 true hlen' hq' (by simp; omega)
      rw [show (decide (4 = 4) : Bool) = true from rfl, hfed', release_stuff]
      exact ih (Nat.le_refl 1) (by decide) hroom' hlen'' hq''
    · rw [stuffedLevels_of_short hfull, List.cons_append] at hq
      obtain ⟨h', xs', hq', hlen', hfed⟩ := fed_release c v n false hlen hq (by simp; omega)
      rw [hfed, release_content (by omega), decide_eq_false hfull]
      exact ih hpos (by omega) hroom' hlen' hq'

/-! ### O60 -/

theorem levels_lineBits (f : Frame) :
    f.lineBits.dropLast.map (·.level) =
      (dominant :: List.replicate 6 recessive) ++
        (dominant :: ((stuffedLevels dominant 1 f.content ++ [dominant]) ++ List.replicate 6 recessive)) ∧
    (f.lineBits.getLast?).map (·.level) = some dominant := by
  have hmark : f.lineBits = (⟨dominant, false⟩ :: (List.replicate 6 ⟨recessive, false⟩ ++ [⟨dominant, false⟩])) ++ f.stuffed ++
      (⟨dominant, false⟩ :: List.replicate 6 ⟨recessive, false⟩) ++ [⟨dominant, false⟩] := by
    simp [Frame.lineBits, markBits]
  rw [hmark, List.dropLast_concat, List.getLast?_concat]
  simp [stuffedLevels, Frame.stuffed]

/-- An attempt's line bits bring a Frame Receiver in SEEK on a QUIET line to GATHER with the content (R5, R25, R26). -/
theorem listen_attempt {f : Frame} {lm : LineMonitor} {fr : FrameReceiver} (hf : f.content.length ≤ 554)
    (hpol : lm.polarity = some recessive) (hrun : 10 ≤ lm.runLength) (hseek : fr.state = .seek) :
    ∃ v n tail lm', listen (lm, fr) (f.lineBits.dropLast.map (·.level)) = (lm', gathered f.content v n false tail) ∧
      lm'.inRun recessive 6 := by
  -- The opening mark: the first dominant bit, the six recessive ones, and the last, which opens the frame.
  have hfirst : lm.reportOn dominant = none := by
    rw [LineMonitor.reportOn, if_neg (by simp [hpol]), if_pos ⟨rfl, hpol⟩, if_neg (by omega),
      if_neg (show ¬ lm.runLength = 6 by omega)]
  have hstart : (lm.afterSample dominant).inRun dominant 1 := by
    simp [LineMonitor.inRun, LineMonitor.afterSample, LineMonitor.runAfter, hpol]
  obtain ⟨hsix, hsix'⟩ := six_recessive hstart
  have hopen : silent lm (dominant :: List.replicate 6 recessive) := ⟨hfirst, hsix⟩
  generalize hlm1 : monitored lm (dominant :: List.replicate 6 recessive) = lm1
  have hlm1' : lm1.inRun recessive 6 := hlm1 ▸ hsix'
  have hseek' : ∀ bs : List Level, fed fr bs = fr := by
    intro bs
    induction bs with
    | nil => rfl
    | cons b bs ih =>
      have hb : (fr.sample b none).1 = fr := by simp [FrameReceiver.sample, hseek]
      show fed (fr.sample b none).1 bs = fr
      rw [hb, ih]
  have hmark := inRun_dominant hlm1'
  -- The content and the closing mark but for its last bit.
  have hruns := shortRuns_stuffed f.content (v := dominant) (Nat.le_refl 1) (by decide) dominant
  generalize hl : stuffedLevels dominant 1 f.content ++ [dominant] = l at hruns
  have hsilent : silent (lm1.afterSample dominant) l := silent_of_shortRuns hmark.1 hmark.2.1 (by decide) hruns
  have hlast : (monitored (lm1.afterSample dominant) l).inRun dominant _ :=
    ⟨hl ▸ monitored_last _ _ _, rfl, monitored_firstRun hmark.2.2 _⟩
  obtain ⟨hclose, hclose'⟩ := six_recessive hlast
  have hall : silent (lm1.afterSample dominant) (l ++ List.replicate 6 recessive) := silent_append hsilent hclose
  have hfed : ∃ v n, fed FrameReceiver.prepared (l ++ List.replicate 6 recessive) =
      gathered f.content v n false (dominant :: List.replicate 6 recessive) := by
    have hq : l ++ List.replicate 6 recessive = stuffedLevels dominant 1 f.content ++ (dominant :: List.replicate 6 recessive) := by
      rw [← hl, List.append_assoc, List.singleton_append]
    have hlen : 7 ≤ (l ++ List.replicate 6 recessive).length := by
      rw [hq, List.length_append, List.length_cons, List.length_replicate]
      omega
    have hsplit := List.take_append_drop 7 (l ++ List.replicate 6 recessive)
    have htake : ((l ++ List.replicate 6 recessive).take 7).length = 7 := by
      rw [List.length_take]
      omega
    obtain ⟨v, n, hvn⟩ := fed_stuffed f.content (c := []) (Nat.le_refl 1) (by decide) (by simpa using hf) htake (by simp)
      (hsplit.trans hq)
    refine ⟨v, n, ?_⟩
    rw [← hsplit, fed, List.foldl_append, ← fed, ← fed, prepared_eq, fed_holdBack _ _ _ _ _ _ (by simp), List.nil_append, hvn,
      List.nil_append]
  obtain ⟨v, n, hvn⟩ := hfed
  refine ⟨v, n, dominant :: List.replicate 6 recessive, monitored (lm1.afterSample dominant) (l ++ List.replicate 6 recessive), ?_, ?_⟩
  · have hstep : listen (lm1, fr) (dominant :: (l ++ List.replicate 6 recessive)) =
        listen (lm1.afterSample dominant, .prepared) (l ++ List.replicate 6 recessive) := by
      rw [Safety.listen, mark_after_six hlm1']
      simp [FrameReceiver.sample, hseek]
    rw [(levels_lineBits f).1, hl, listen_append, listen_of_silent hopen, hseek', hlm1, hstep, listen_of_silent hall, hvn]
  · rw [monitored, List.foldl_append]
    exact hclose'

/-- What the receiver holds after an attempt's bits is read back as the frame (O58). -/
theorem checkClosed_gathered {m : Msg} (hm : m.valid = true) (v : Level) (n : Nat) (tail : List Level) :
    checkClosed (gathered m.toFrame.content v n false tail).stuffDue (gathered m.toFrame.content v n false tail).crc
      (gathered m.toFrame.content v n false tail).content = some m := by
  simp only [gathered]
  rw [content_body, checkClosed_content hm]

/-- Settles O60: the receiver that has heard an attempt's bits holds its content, which the closing checks read back. -/
theorem frameOnTheLine : Obligations.FrameOnTheLine := by
  unfold Obligations.FrameOnTheLine
  intro m lm fr hm _ hpol hrun hseek
  have hlen : m.toFrame.content.length ≤ 554 := by
    have := payload_of_valid hm
    rw [content_length]
    omega
  obtain ⟨v, n, tail, lm', hlisten, hlm'⟩ := listen_attempt hlen hpol hrun hseek
  rw [hlisten]
  exact ⟨(levels_lineBits m.toFrame).2, mark_after_six hlm', rfl, rfl, checkClosed_gathered hm v n tail⟩

end Sys2Proof.Machine
end

section
/-!
PROOFS. The Host Port: the fall of CSN and the bits on SDI and SDO (O5), the short commands (O7, O9, O10), POST (O12 to O14), and
which rows change which registers (O56).
-/
namespace Sys2Proof.Machine

open Sys2Proof Sys2Proof.Safety

/-! ### The port's bits (R160 to R163) -/

section
variable {s : State}

theorem exec_csnFall_of_idle (hport : s.port = .idle) (hreset : s.inReset = false) :
    exec .csnFall s = .next { s with port := .taking s.reply.bytes } := by
  simp [exec, execCsnFall, hport, hreset]

theorem exec_csnFall_of_reset (hport : s.port = .idle) (hreset : s.inReset = true) :
    exec .csnFall s = .next { s with port := .ignoring } := by
  simp [exec, execCsnFall, hport, hreset]

theorem sdoByte_of_taking {out : List Byte} (h : s.port = .taking out) (k : Nat) : s.sdoByte k = some (out.getD k 0xFF) := by
  simp only [State.sdoByte, h]

theorem exec_incomplete {bytes : List Byte} (h : transactionComplete bytes = false) :
    exec (.incompleteTransaction bytes) s = .next { s with port := .idle } := by
  simp only [exec, execIncompleteTransaction, h]
  rfl

end

theorem getMsbD_eq_testBit (b : Byte) {i : Nat} (h : i < 8) : b.getMsbD i = b.toNat.testBit (7 - i) := by
  simp [BitVec.getMsbD, h, BitVec.getLsbD]

theorem transactionComplete_of_short {bytes : List Byte} (h : bytes.length < 3) : transactionComplete bytes = false := by
  match bytes with
  | [] | [_] | [_, _] => rfl
  | _ :: _ :: _ :: _ => simp only [List.length_cons] at h; omega

theorem sdiBytes_cut (bytes : List Byte) {cut : List Level} (h : cut.length < 8) :
    sdiBytes ((bytes.flatMap fun b => [7, 6, 5, 4, 3, 2, 1, 0].map b.toNat.testBit) ++ cut) = bytes := by
  have hbits : (bytes.flatMap fun b => [7, 6, 5, 4, 3, 2, 1, 0].map b.toNat.testBit) = bytesBits bytes := rfl
  have hlen : (bytesBits bytes ++ cut).length / 8 = bytes.length := by
    rw [List.length_append, bytesBits_length]
    omega
  rw [hbits, sdiBytes, hlen, bytesOf_bytesBits]

/-- Settles O5. -/
theorem transactionBegins : Obligations.TransactionBegins := by
  refine ⟨⟨fun s hport hreset => ⟨_, exec_csnFall_of_idle hport hreset, rfl, fun k hk => ?_, fun k hk => ?_⟩,
    fun s hport hreset => ⟨_, exec_csnFall_of_reset hport hreset, rfl, fun k => rfl⟩, fun s k i hi => ?_, rfl⟩,
    fun s bytes h => exec_incomplete ?_, fun addr rate bytes cut hcut => ?_, fun s addr rate bits hbits => ?_⟩
  · rw [sdoByte_of_taking rfl]
    have hk' : k < s.reply.bytes.length := by
      simp only [Reply.bytes, List.length_cons]
      omega
    rw [List.getD_eq_getElem _ _ hk']
    exact (List.getElem?_eq_getElem hk').symm
  · rw [sdoByte_of_taking rfl, List.getD_eq_default _ _ (by simp only [Reply.bytes, List.length_cons]; omega)]
  · rw [State.sdoBit, show (8 * k + i) / 8 = k by omega, show (8 * k + i) % 8 = i by omega]
    exact Option.map_congr fun b _ => getMsbD_eq_testBit b hi
  · rcases h with hshort | ⟨tag, code, n, rest, rfl, hlong⟩
    · exact transactionComplete_of_short hshort
    · simp only [transactionComplete, decide_eq_false_iff_not, Config.maxArguments]
      omega
  · rw [decodeSdi, sdiBytes_cut bytes hcut]
  · have hcomplete : transactionComplete (sdiBytes bits) = false := transactionComplete_of_short (by
      rw [sdiBytes_length]
      omega)
    rw [decodeSdi, decodeTransaction_of_incomplete hcomplete, exec_incomplete hcomplete]

/-! ### NOP and STATUS (R167) -/

/-- A list that holds each slot of one kind once, and no other slot, is as long as there are slots of the kind. -/
theorem length_of_count_eq {l : List SlotId} {kind : SlotId → Bool} (h : ∀ k, l.count k = if kind k then 1 else 0) :
    l.length = allSlots.countP kind := by
  have hperm : l.Perm (allSlots.filter kind) := by
    refine (List.perm_ext_iff_of_nodup (nodup_of_count_eq h) (allSlots_nodup.filter _)).mpr fun k => ?_
    rw [List.mem_filter, ← List.count_pos_iff, h k]
    cases kind k <;> simp [mem_allSlots]
  rw [hperm.length_eq, List.countP_eq_length_filter]

theorem countSlots_sum (s : State) :
    s.countSlots Slot.isFree + s.countSlots Slot.isOutbound + s.countSlots Slot.isDelivered = 40 := by
  have hlist : ∀ l : List SlotId, l.countP (fun k => (s.slot k).isFree) + l.countP (fun k => (s.slot k).isOutbound) +
      l.countP (fun k => (s.slot k).isDelivered) = l.length := by
    intro l
    induction l with
    | nil => rfl
    | cons k l ih =>
      have hone : (if (s.slot k).isFree = true then 1 else 0) + (if (s.slot k).isOutbound = true then 1 else 0) +
          (if (s.slot k).isDelivered = true then 1 else 0) = 1 := by cases s.slot k <;> rfl
      simp only [List.countP_cons, List.length_cons]
      omega
  exact hlist allSlots

/-- The slots that the outcome entries of a report list name. -/
def outcomeSlots (l : List ReportEntry) : List SlotId :=
  l.filterMap fun e => match e with
    | .outcome k => some k
    | .notice .. => none

theorem outcomeSlots_length (l : List ReportEntry) : (outcomeSlots l).length = outcomeCount l := by
  induction l with
  | nil => rfl
  | cons e l ih => cases e <;> simpa [outcomeSlots, outcomeCount] using ih

theorem outcomeSlots_count (l : List ReportEntry) (k : SlotId) : (outcomeSlots l).count k = l.count (.outcome k) := by
  induction l with
  | nil => rfl
  | cons e l ih => cases e <;> simpa [outcomeSlots, List.count_cons] using ih

theorem statusFlags_eq (s : State) :
    s.statusFlags = byteOf ((if s.tu.deferred then 1 else 0) + (if s.gu.lane = none then 0 else 2)) := by
  rw [State.statusFlags]
  cases s.tu.deferred <;> cases s.gu.lane <;> rfl

/-- Settles O7: the two replies, and the counts over the slots. -/
theorem nopAndStatus : Obligations.NopAndStatus := by
  refine ⟨⟨fun s tag htakes => ⟨congrArg Host.Outcome.next (State.execute_of_takes htakes _),
    (congrArg Host.Outcome.next (State.execute_of_takes htakes _)).trans ?_⟩, rfl, rfl⟩,
    fun s => ⟨countSlots_sum s, fun h => length_of_count_eq h, fun h => ?_⟩⟩
  · rw [← statusFlags_eq]
    rfl
  · rw [← outcomeSlots_length]
    exact length_of_count_eq fun k => (outcomeSlots_count _ k).trans (h.2 k)

/-! ### CONFIGURE, JOIN and RESUME (R169, R63, R64) -/

/-- Settles O9: the station state, then the ranges, decide. -/
theorem configure : Obligations.Configure := by
  intro s tag a b c d e htakes
  have hexec : exec (.configure tag a b c d e) s = _ := congrArg Host.Outcome.next (State.execute_of_takes htakes _)
  rw [hexec]
  refine ⟨fun hst => ?_, fun hst => ⟨fun hrange => ?_, fun hrange => ?_⟩⟩
  · rw [State.csnHigh_mu, if_neg hst]
    rfl
  · have hnone : configArgs a b c d e = none := if_neg (by omega)
    simp only [State.csnHigh_mu, hst, if_true, hnone]
    rfl
  · have hsome : configArgs a b c d e = some ⟨a.toNat, b.toNat, c.toNat, d.toNat, e⟩ := if_pos (by omega)
    simp only [State.csnHigh_mu, hst, if_true, hsome]
    rfl

/-- A change to a station state that may not drive the line (R40). -/
theorem become_idle (s : State) {st : StationState} (hst : st.mayDrive = false) :
    s.become st =
      { s with mu := { s.mu with station := st }
               tu := if s.tu.state = .wait then s.tu else { waiting s.tu with lout := recessive } } := by
  unfold State.become State.abortAttempt
  rw [hst]
  by_cases hwait : s.tu.state = .wait
  · simp [hwait]
  · simp only [Bool.false_eq_true, if_false, if_neg hwait]
    rfl

/-- A change to MEMBER or LEAVING, which leaves an attempt alone (R40). -/
theorem become_driving (s : State) {st : StationState} (hst : st.mayDrive = true) :
    s.become st = { s with mu := { s.mu with station := st } } := by
  simp [State.become, hst]

theorem enterJoining_eq (s : State) :
    s.enterJoining =
      { s with
        mu := { s.mu with
                station := .joining, joinTimer := some (2 * (10 * s.cfg.rollInterval)), rollTimer := none, leaveTimer := none,
                leaveExpired := false, rollDue := false, joinedPending := false, rollOnLine := .off }
        tu := { (if s.tu.state = .wait then s.tu else { waiting s.tu with lout := recessive }) with
                failures := 0, deferred := false } } := by
  rw [State.enterJoining, become_idle s rfl]
  rfl

/-- Settles O10. -/
theorem joinAndResume : Obligations.JoinAndResume := by
  have hjoin : ∀ {s : State}, takes s → ∀ tag, exec (.join tag) s = _ := fun htakes tag =>
    congrArg Host.Outcome.next (State.execute_of_takes htakes _)
  have hresume : ∀ {s : State}, takes s → ∀ tag, exec (.resume tag) s = _ := fun htakes tag =>
    congrArg Host.Outcome.next (State.execute_of_takes htakes _)
  have hleave : ∀ {s : State}, takes s → ∀ tag, exec (.leave tag) s = _ := fun htakes tag =>
    congrArg Host.Outcome.next (State.execute_of_takes htakes _)
  refine ⟨fun s tag htakes => ⟨fun hst => ?_, fun hst => ?_⟩, fun s tag htakes => ⟨fun hst => ?_, fun hst => ?_, fun hst => ?_⟩⟩
  · rw [hjoin htakes, State.csnHigh_mu, if_pos hst, enterJoining_eq]
    rfl
  · rw [hresume htakes, State.csnHigh_mu, if_pos hst, enterJoining_eq]
    rfl
  · rw [hjoin htakes, State.csnHigh_mu, if_neg hst]
    rfl
  · rw [hresume htakes, State.csnHigh_mu, if_neg hst]
    rfl
  · rw [hleave htakes]
    rcases hst with hst | hst | hst <;> simp only [State.csnHigh_mu, hst] <;> rfl

/-! ### The arguments of POST (R172, section 11.3) -/

theorem priorityArg_eq {b : Byte} (h : b = 2 ∨ b = 3) : priorityArg b = some (decide (b = 2)) := by
  rcases h with rfl | rfl <;> rfl

theorem priorityArg_eq_none {b : Byte} (h2 : b ≠ 2) (h3 : b ≠ 3) : priorityArg b = none := by
  unfold priorityArg
  split
  · next h => exact absurd (BitVec.eq_of_toNat_eq h) h2
  · next h => exact absurd (BitVec.eq_of_toNat_eq h) h3
  · rfl

theorem destArg_station {b : Byte} {p : StationId} (h : b.toNat = p.val) : destArg b = some (.station p) := by
  simp [destArg, h]

theorem destArg_group {b : Byte} {g : GroupId} (h : b.toNat = 32 + g.val) : destArg b = some (.group g) := by
  have hge : ¬ b.toNat < 32 := by omega
  have hlt : b.toNat < 40 := by omega
  have hsub : b.toNat - 32 = g.val := by omega
  simp [destArg, hge, hlt, hsub]

theorem destArg_none {b : Byte} (h : 40 ≤ b.toNat) : destArg b = none := by
  simp [destArg, show ¬ b.toNat < 32 by omega, show ¬ b.toNat < 40 by omega]

/-- A destination argument below 40 names a station or a group. -/
theorem destArg_cases {b : Byte} (h : b.toNat < 40) :
    (∃ p : StationId, b.toNat = p.val) ∨ ∃ g : GroupId, b.toNat = 32 + g.val := by
  by_cases h32 : b.toNat < 32
  · exact .inl ⟨⟨b.toNat, h32⟩, rfl⟩
  · exact .inr ⟨⟨b.toNat - 32, by omega⟩, by simp only; omega⟩

/-! ### POST (R86, R172) -/

section
variable {s : State} {tag dest priority : Byte} {payload : List Byte} {d : Dest}

theorem exec_post_of_takes (h : takes s) (hlen : payload.length ≤ 70) :
    exec (.post tag dest priority payload) s = .next (s.csnHigh.post tag dest priority payload) := by
  have hmax : ¬ Config.maxArguments < payload.length + 2 := by
    simp only [Config.maxArguments]
    omega
  have hexec : exec (.post tag dest priority payload) s = execPost tag dest priority payload s := rfl
  rw [hexec, execPost, if_neg hmax, State.execute_of_takes h]

/-- The first checks of POST (R172). -/
theorem post_of_notMember (h : s.mu.station ≠ .member) :
    s.post tag dest priority payload = s.replyWith tag 0x20 .notMember [] := if_pos h

theorem post_of_badValue (hst : s.mu.station = .member) (h : 64 < payload.length ∨ (priority ≠ 2 ∧ priority ≠ 3)) :
    s.post tag dest priority payload = s.replyWith tag 0x20 .badValue [] := by
  rw [State.post, if_neg (not_not.mpr hst)]
  by_cases hlen : Config.maxPayload < payload.length
  · rw [if_pos hlen]
  · rw [if_neg hlen]
    rcases h with hlong | ⟨h2, h3⟩
    · exact absurd hlong hlen
    · simp only [priorityArg_eq_none h2 h3]

theorem post_of_badDest (hst : s.mu.station = .member) (hlen : payload.length ≤ 64) (hpriority : priority = 2 ∨ priority = 3)
    (h : ∀ d, destArg dest = some d → s.isOwn d = true) : s.post tag dest priority payload = s.replyWith tag 0x20 .badDest [] := by
  rw [State.post, if_neg (not_not.mpr hst), if_neg (Nat.not_lt.mpr hlen)]
  simp only [priorityArg_eq hpriority]
  cases hd : destArg dest with
  | none => rfl
  | some d => exact if_pos (h d hd)

theorem post_of_goodDest (hst : s.mu.station = .member) (hlen : payload.length ≤ 64) (hpriority : priority = 2 ∨ priority = 3)
    (hd : destArg dest = some d) (hown : s.isOwn d = false) :
    s.post tag dest priority payload = s.postTo tag d (decide (priority = 2)) payload := by
  rw [State.post, if_neg (not_not.mpr hst), if_neg (Nat.not_lt.mpr hlen)]
  simp only [priorityArg_eq hpriority, hd, hown, Bool.false_eq_true, if_false]

/-- The last checks of POST (R172, R86). -/
theorem postTo_of_noPeer (h : s.noPeer d = true) (urgent : Bool) :
    s.postTo tag d urgent payload = s.replyWith tag 0x20 .noPeer [] := if_pos h

theorem postTo_of_full (hpeer : s.noPeer d = false) (h : s.outboundSlot = none) (urgent : Bool) :
    s.postTo tag d urgent payload = s.replyWith tag 0x20 .full [] := by
  rw [State.postTo, if_neg (by simp [hpeer])]
  simp only [h]

theorem postTo_of_slot (hpeer : s.noPeer d = false) {k : SlotId} (h : s.outboundSlot = some k) (urgent : Bool) :
    s.postTo tag d urgent payload =
      ((s.fillOutbound k d urgent payload).handOver k d urgent).replyWith tag 0x20 .ok (bytes16 s.ticket) := by
  rw [State.postTo, if_neg (by simp [hpeer])]
  simp only [h]

theorem noPeer_station (p : StationId) : s.noPeer (.station p) = decide ((s.peer p).presence ≠ .present) := by
  simp only [State.noPeer, State.isPresent, decide_not]

theorem outboundSlot_none (h : 32 ≤ s.countSlots Slot.isOutbound ∨ ∀ k : SlotId, s.slot k ≠ .free) : s.outboundSlot = none := by
  rcases h with hcap | hnone
  · exact if_neg (Nat.not_lt.mpr hcap)
  · rw [State.outboundSlot]
    split
    · cases hk : s.freeSlot with
      | none => rfl
      | some k => exact absurd (State.freeSlot_spec hk).1 (hnone k)
    · rfl

theorem freeSlot_of_lowest {k : SlotId} (hk : s.slot k = .free) (hlow : ∀ j, j < k → s.slot j ≠ .free) : s.freeSlot = some k := by
  cases hj : s.freeSlot with
  | none => exact absurd hk (State.freeSlot_none hj k)
  | some j =>
    obtain ⟨hfree, hlow'⟩ := State.freeSlot_spec hj
    rcases lt_trichotomy j k with hlt | rfl | hgt
    · exact absurd hfree (hlow j hlt)
    · rfl
    · exact absurd hk (hlow' k hgt)

theorem outboundSlot_of_lowest {k : SlotId} (hcap : s.countSlots Slot.isOutbound < 32) (hk : s.slot k = .free)
    (hlow : ∀ j, j < k → s.slot j ≠ .free) : s.outboundSlot = some k :=
  (if_pos hcap).trans (freeSlot_of_lowest hk hlow)

end

/-- Settles O12: each refusal is the check's own, with the checks before it passed. -/
theorem postRefused : Obligations.PostRefused := by
  intro s tag dest priority payload htakes hlen refused badValue badDest noPeer full
  have hexec := exec_post_of_takes (tag := tag) (dest := dest) (priority := priority) htakes hlen
  have hgood : ¬ badValue → payload.length ≤ 64 ∧ (priority = 2 ∨ priority = 3) := fun hvalue => by
    simp only [badValue, not_or, not_and_or, not_not, Nat.not_lt] at hvalue
    exact hvalue
  -- Past the third check the destination is another station or a group.
  have hdest : ¬ badDest → ∃ d, destArg dest = some d ∧ s.csnHigh.isOwn d = false ∧
      (s.csnHigh.noPeer d = true ↔ noPeer) := fun hd => by
    simp only [badDest, not_or, Nat.not_le] at hd
    obtain ⟨hlt, hown⟩ := hd
    rcases destArg_cases hlt with ⟨p, hp⟩ | ⟨g, hg⟩
    · refine ⟨.station p, destArg_station hp, ?_, ?_⟩
      · simp only [State.isOwn, Dest.station.injEq, decide_eq_false_iff_not]
        rintro rfl
        exact hown hp
      · rw [noPeer_station, decide_eq_true_iff]
        refine ⟨fun h => ⟨p, hp, h⟩, fun ⟨q, hq, h⟩ => ?_⟩
        rwa [show p = q from Fin.ext (hp.symm.trans hq)]
    · refine ⟨.group g, destArg_group hg, rfl, ⟨nofun, fun ⟨q, hq, _⟩ => ?_⟩⟩
      have := q.isLt
      omega
  refine ⟨fun hst => ?_, fun hst hvalue => ?_, fun hst hvalue hbad => ?_, fun hst hvalue hbad hpeer => ?_,
    fun hst hvalue hbad hpeer hfull => ?_⟩
  · rw [hexec, post_of_notMember (s := s.csnHigh) hst]
    rfl
  · rw [hexec, post_of_badValue (s := s.csnHigh) hst hvalue]
    rfl
  · obtain ⟨hpayload, hpriority⟩ := hgood hvalue
    rw [hexec, post_of_badDest (s := s.csnHigh) hst hpayload hpriority fun d hd => ?_]
    · rfl
    · rcases hbad with hbig | hown
      · rw [destArg_none hbig] at hd
        cases hd
      · rw [destArg_station hown] at hd
        cases hd
        exact decide_eq_true rfl
  · obtain ⟨d, hd, hown, hiff⟩ := hdest hbad
    obtain ⟨hpayload, hpriority⟩ := hgood hvalue
    rw [hexec, post_of_goodDest (s := s.csnHigh) hst hpayload hpriority hd hown, postTo_of_noPeer (hiff.mpr hpeer)]
    rfl
  · obtain ⟨d, hd, hown, hiff⟩ := hdest hbad
    obtain ⟨hpayload, hpriority⟩ := hgood hvalue
    rw [hexec, post_of_goodDest (s := s.csnHigh) hst hpayload hpriority hd hown,
      postTo_of_full (Bool.eq_false_iff.mpr fun h => hpeer (hiff.mp h)) (outboundSlot_none (s := s.csnHigh) hfull)]
    rfl

/-! ### A granted POST: the slot, the ticket and the counter (R86, R87) -/

theorem ticketFresh_of_advanced {s t : State} (h : ticketAdvanced s t) : ticketFresh t := by
  obtain ⟨n, hticket, hlive, -⟩ := h
  exact ⟨hticket ▸ ticketAfter_succ_ne_zero _ _, hlive⟩

theorem ticketLive_congr {s t : State} (h : ∀ j, (t.slot j).ticket? = (s.slot j).ticket?) : t.ticketLive = s.ticketLive := by
  funext x
  rw [Bool.eq_iff_iff, State.ticketLive_iff, State.ticketLive_iff]
  simp only [h]

theorem ticketAdvanced_congr {s t u : State} (h : ticketAdvanced s t) (hticket : u.ticket = t.ticket)
    (hslots : ∀ j, (u.slot j).ticket? = (t.slot j).ticket?) : ticketAdvanced s u := by
  obtain ⟨n, heq, hlive, hbefore⟩ := h
  refine ⟨n, hticket.trans heq, ?_, fun m hm => ?_⟩
  · rw [ticketLive_congr hslots, hticket, hlive]
  · rw [ticketLive_congr hslots, hbefore m hm]

/-- An entry placed behind those that are not `normal` and directly ahead of the first that is, or at the tail (R102, R144). -/
theorem insertAhead_append {α : Type} {normal : α → Bool} (x : α) {front back : List α} (hfront : ∀ w ∈ front, normal w = false)
    (hback : back = [] ∨ ∃ w rest, back = w :: rest ∧ normal w = true) :
    insertAhead normal x (front ++ back) = front ++ x :: back := by
  induction front with
  | nil =>
    rcases hback with rfl | ⟨w, rest, rfl, hw⟩
    · rfl
    · simp [insertAhead, hw]
  | cons w front ih =>
    rw [List.cons_append, insertAhead, hfront w List.mem_cons_self, if_neg Bool.false_ne_true,
      ih fun v hv => hfront v (List.mem_cons_of_mem _ hv)]
    rfl

/-- A granted POST hands the filled slot over to the holder that its destination names (R86). -/
theorem exec_post_granted {s : State} {tag dest priority : Byte} {payload : List Byte} {d : Dest} {k : SlotId} (htakes : takes s)
    (hst : s.mu.station = .member) (hlen : payload.length ≤ 64) (hpriority : priority = 2 ∨ priority = 3)
    (hdest : destArg dest = some d) (hown : s.isOwn d = false) (hpeer : s.noPeer d = false)
    (hcap : s.countSlots Slot.isOutbound < 32) (hk : s.slot k = .free) (hlow : ∀ j, j < k → s.slot j ≠ .free) :
    exec (.post tag dest priority payload) s = .next
      (((s.csnHigh.fillOutbound k d (decide (priority = 2)) payload).handOver k d (decide (priority = 2))).replyWith tag 0x20 .ok
        (bytes16 s.ticket)) := by
  have hown' : s.csnHigh.isOwn d = false := hown
  rw [exec_post_of_takes htakes (by omega), post_of_goodDest (s := s.csnHigh) hst hlen hpriority hdest hown',
    postTo_of_slot (s := s.csnHigh) hpeer (outboundSlot_of_lowest (s := s.csnHigh) hcap hk hlow)]
  rfl

/-- Settles O13: the filled slot goes to the session of its destination. -/
theorem postToStation : Obligations.PostToStation := by
  intro s tag dest priority payload p k htakes hst hlen hpriority hdest hne hpresent hcap hk hlow
  have hown : s.isOwn (.station p) = false := by simpa [State.isOwn] using hne
  have hpeer : s.noPeer (.station p) = false := by simp [noPeer_station, hpresent]
  have hslot : s.csnHigh.outboundSlot = some k := outboundSlot_of_lowest (s := s.csnHigh) hcap hk hlow
  refine ⟨_, exec_post_granted htakes hst hlen hpriority (destArg_station hdest) hown hpeer hcap hk hlow, ?_⟩
  have hadvanced := ticketAdvanced_fill hslot (.station p) (decide (priority = 2)) payload
  generalize hfill : s.csnHigh.fillOutbound k (.station p) (decide (priority = 2)) payload = u at hadvanced ⊢
  have hpeers : u.peers = s.peers := by rw [← hfill]; simp
  have htx : u.tx p = (s.peer p).tx := congrArg PeerEntry.tx (State.peer_congr hpeers p)
  have hhand : u.handOver k (.station p) (decide (priority = 2)) = u.withTx p (some (u.sessionWith p k (decide (priority = 2)))) :=
    State.queueDirect_eq u p k _
  rw [hhand]
  have htx' : (((u.withTx p (some (u.sessionWith p k (decide (priority = 2))))).replyWith tag 0x20 .ok (bytes16 s.ticket)).peer p).tx =
      some (u.sessionWith p k (decide (priority = 2))) := by
    simp [State.peer_withTx]
  have hadvanced' : ticketAdvanced s ((u.withTx p (some (u.sessionWith p k (decide (priority = 2))))).replyWith tag 0x20 .ok
      (bytes16 s.ticket)) := ticketAdvanced_congr hadvanced rfl fun _ => rfl
  refine ⟨?_, ticketFresh_of_advanced hadvanced', hadvanced', fun hnone => ?_, fun x hx => ⟨fun h3 => ?_, fun h2 => ?_⟩⟩
  · rw [htx', ← hfill]
    rfl
  · rw [htx', State.sessionWith, htx, hnone]
    rfl
  · rw [htx', State.sessionWith, htx, hx, h3]
    rfl
  · intro front back hsplit hfront hback
    rw [htx', State.sessionWith, htx, hx, h2]
    have hplace : u.placeWaiting x.waiting k true = front ++ ⟨k, false⟩ :: back := by
      rw [State.placeWaiting, if_pos rfl, hsplit]
      refine insertAhead_append _ (fun w hw => ?_) ?_
      · rcases hfront w hw with h | h
        · simp [h]
        · have h' : u.urgentSlot w.slot = true := h
          simp [h']
      · rcases hback with rfl | ⟨w, rest, rfl, hret, hurg⟩
        · exact .inl rfl
        · have h' : u.urgentSlot w.slot = false := hurg
          exact .inr ⟨w, rest, rfl, by simp [hret, h']⟩
    simp only [decide_true, hplace]

/-! ### A granted POST to a group (R144, R146) -/

theorem ticket_loadFrom (l : List SlotId) (s : State) (j : SlotId) : ((s.loadFrom l).slot j).ticket? = (s.slot j).ticket? := by
  induction l generalizing s with
  | nil => rfl
  | cons k rest ih =>
    rw [State.loadFrom]
    split
    · rw [ih]
      exact Slot.moved_ticket (moved_setOutcome s k j _)
    · exact Slot.moved_ticket (moved_toInFlight s k j)

theorem ticket_load (s : State) (j : SlotId) : (s.load.slot j).ticket? = (s.slot j).ticket? := by
  rw [State.load]
  split
  · exact ticket_loadFrom _ s j
  · rfl

/-- The Group Unit's waiting list with a posted parcel placed (R144). -/
def State.groupPlaced (s : State) (k : SlotId) (urgent : Bool) : List SlotId :=
  if urgent then insertAhead (fun j => !s.urgentSlot j) k s.gu.waiting else s.gu.waiting ++ [k]

theorem queueGroup_eq (s : State) (k : SlotId) (urgent : Bool) :
    s.queueGroup k urgent = (s.withGroupWaiting (s.groupPlaced k urgent)).load := rfl

theorem groupPlaced_of_nil {s : State} (h : s.gu.waiting = []) (k : SlotId) (urgent : Bool) : s.groupPlaced k urgent = [k] := by
  rw [State.groupPlaced, h]
  cases urgent <;> rfl

/-- The one parcel that waits, with an empty roster (R146). -/
theorem load_single_rosterEmpty {s : State} {k : SlotId} {c : Parcel} {g : GroupId} (hlane : s.gu.lane = none)
    (hst : s.mu.station = .member) (hk : s.slot k = .waiting c) (hd : c.dest = .group g) (hempty : s.roster g = 0) :
    (s.withGroupWaiting [k]).load =
      { s.withSlot k (.done c ⟨.notSent, .rosterEmpty, some (0, 0)⟩) with
        report := s.report ++ [.outcome k], gu := { s.gu with waiting := [] } } := by
  rw [State.load_of_rosterEmpty (s := s.withGroupWaiting [k]) hlane hst rfl hk hd hempty,
    State.setOutcome_of_waiting (s := s.withGroupWaiting [k]) hk, State.load_of_nothing (.inr (.inr rfl))]
  rfl

/-- The one parcel that waits, with a roster (R146). -/
theorem load_single_roster {s : State} {k : SlotId} {c : Parcel} {g : GroupId} (hlane : s.gu.lane = none)
    (hst : s.mu.station = .member) (hk : s.slot k = .waiting c) (hd : c.dest = .group g) (hroster : s.roster g ≠ 0) :
    (s.withGroupWaiting [k]).load =
      { s.withSlot k (.inFlight { c with sentOnce := false }) with
        gu := { waiting := [], lane := some (Lane.loaded k g s.gu.counter (s.roster g)), counter := s.gu.counter + 1 } } :=
  State.load_of_roster (s := s.withGroupWaiting [k]) hlane hst rfl hk hd hroster

/-- The load changes the slots, the Group Unit's record and the report list alone (R146). -/
theorem load_fields (s : State) : s.load = { s with slots := s.load.slots, gu := s.load.gu, report := s.load.report } := by
  have h := s.load_keeps
  generalize s.load = v at h ⊢
  obtain ⟨hpending, hreset, hport, hlm, hfr, htu, hmu, hpeers, hdelivered, hticket, hanswers, hcfg, hreply⟩ := h
  cases v
  subst hpending hreset hport hlm hfr htu hmu hpeers hdelivered hticket hanswers hcfg hreply
  rfl

/-- Settles O14: the filled slot goes to the Group Unit, and the lane and the roster decide what the load does with it. -/
theorem postToGroup : Obligations.PostToGroup := by
  intro s tag dest priority payload g k htakes hst hlen hpriority hdest hcap hk hlow parcel members
  have hslot : s.csnHigh.outboundSlot = some k := outboundSlot_of_lowest (s := s.csnHigh) hcap hk hlow
  refine ⟨_, exec_post_granted htakes hst hlen hpriority (destArg_group hdest) rfl rfl hcap hk hlow, ?_⟩
  have hadvanced := ticketAdvanced_fill hslot (.group g) (decide (priority = 2)) payload
  have hslots := fun j => s.csnHigh.slot_fillOutbound k j (.group g) (decide (priority = 2)) payload
  have hroster : (s.csnHigh.fillOutbound k (.group g) (decide (priority = 2)) payload).roster g = s.roster g := rfl
  have hrest : s.csnHigh.fillOutbound k (.group g) (decide (priority = 2)) payload =
      { s.csnHigh with
        slots := (s.csnHigh.fillOutbound k (.group g) (decide (priority = 2)) payload).slots
        ticket := (s.csnHigh.fillOutbound k (.group g) (decide (priority = 2)) payload).ticket } := rfl
  generalize s.csnHigh.fillOutbound k (.group g) (decide (priority = 2)) payload = u at hadvanced hslots hroster hrest ⊢
  have hparcel : u.slot k = .waiting parcel := (hslots k).trans (if_pos rfl)
  have hother : ∀ j, j ≠ k → u.slot j = s.slot j := fun j hj => (hslots j).trans (if_neg hj)
  have hgu : u.gu = s.gu := by rw [hrest]; rfl
  have hreport : u.report = s.report := by rw [hrest]; rfl
  have hmember : u.mu.station = .member := by rw [hrest]; exact hst
  generalize hurgent : decide (priority = 2) = urgent
  have hhand : u.handOver k (.group g) urgent = (u.withGroupWaiting (u.groupPlaced k urgent)).load := queueGroup_eq u k urgent
  rw [hhand]
  have hadvanced' : ticketAdvanced s (((u.withGroupWaiting (u.groupPlaced k urgent)).load).replyWith tag 0x20 .ok
      (bytes16 s.ticket)) :=
    ticketAdvanced_congr hadvanced (by simp [State.withGroupWaiting]) fun j => ticket_load (u.withGroupWaiting _) j
  -- With an IDLE lane and nothing waiting, the roster decides; a BUSY lane leaves the parcel waiting.
  have hempty : s.gu.lane = none → s.gu.waiting = [] → members = [] → (u.withGroupWaiting (u.groupPlaced k urgent)).load =
      { u.withSlot k (.done parcel ⟨.notSent, .rosterEmpty, some (0, 0)⟩) with
        report := u.report ++ [.outcome k], gu := { u.gu with waiting := [] } } := fun hlane hnil hnone => by
    rw [groupPlaced_of_nil (by rw [hgu, hnil])]
    exact load_single_rosterEmpty (by rw [hgu, hlane]) hmember hparcel rfl (hroster.trans (stationsWhere_eq_zero.mpr hnone))
  have hsome : s.gu.lane = none → s.gu.waiting = [] → members ≠ [] → (u.withGroupWaiting (u.groupPlaced k urgent)).load =
      { u.withSlot k (.inFlight parcel) with
        gu := { waiting := [], lane := some (Lane.loaded k g u.gu.counter (u.roster g)), counter := u.gu.counter + 1 } } :=
    fun hlane hnil hsome => by
      rw [groupPlaced_of_nil (by rw [hgu, hnil])]
      exact load_single_roster (by rw [hgu, hlane]) hmember hparcel rfl
        (hroster.trans_ne fun h => hsome (stationsWhere_eq_zero.mp h))
  have hbusy : s.gu.lane ≠ none → (u.withGroupWaiting (u.groupPlaced k urgent)).load = u.withGroupWaiting (u.groupPlaced k urgent) :=
    fun hlane => State.load_of_nothing (.inl (by simpa [State.withGroupWaiting, hgu] using hlane))
  refine ⟨?_, ticketFresh_of_advanced hadvanced', hadvanced', fun j hj hnil => ?_, fun hlane hnil hnone => ?_,
    fun hlane hnil hmembers => ?_, fun hlane h3 => ?_, fun hlane h2 => ?_⟩
  · rw [load_fields, hrest]
    rfl
  · show (u.withGroupWaiting _).load.slot j = s.slot j
    cases hl : s.gu.lane with
    | some l =>
      rw [hbusy (by simp [hl])]
      exact hother j hj
    | none =>
      by_cases hm : members = []
      · rw [hempty hl hnil hm]
        exact (State.slot_withSlot_ne u _ hj).trans (hother j hj)
      · rw [hsome hl hnil hm]
        exact (State.slot_withSlot_ne u _ hj).trans (hother j hj)
  · rw [hempty hlane hnil hnone]
    refine ⟨State.slot_withSlot_same u k _, by rw [← hreport]; rfl, ?_⟩
    show { u.gu with waiting := [] } = s.gu
    rw [hgu, ← hnil]
  · rw [hsome hlane hnil hmembers]
    refine ⟨State.slot_withSlot_same u k _, hreport, rfl, by rw [← hgu]; rfl, _, rfl, rfl, rfl, by rw [← hgu]; rfl, rfl,
      fun p => ?_, rfl, rfl, rfl, rfl, rfl, rfl⟩
    have hset : (Lane.loaded k g u.gu.counter (u.roster g)).roster = s.roster g := hroster
    rw [hset]
    exact hasStation_stationsWhere
  · rw [hbusy hlane]
    refine ⟨hparcel, hother, hreport, ?_⟩
    rw [h3] at hurgent
    subst hurgent
    show { u.gu with waiting := u.gu.waiting ++ [k] } = _
    rw [hgu]
  · rw [hbusy hlane]
    refine ⟨hparcel, hother, hreport, fun front back hsplit hfront hback => ?_⟩
    rw [h2] at hurgent
    subst hurgent
    show { u.gu with waiting := insertAhead (fun j => !u.urgentSlot j) k u.gu.waiting } = _
    have hplace : insertAhead (fun j => !u.urgentSlot j) k (front ++ back) = front ++ k :: back := by
      refine insertAhead_append k (fun j hj => ?_) ?_
      · have h : u.urgentSlot j = true := hfront j hj
        simp [h]
      · rcases hback with rfl | ⟨j, rest, rfl, hj⟩
        · exact .inl rfl
        · have h : u.urgentSlot j = false := hj
          exact .inr ⟨j, rest, rfl, by simp [h]⟩
    rw [hgu, hsplit, hplace]

/-! ### The owners of the registers (O56) -/

theorem teardown_mu (s : State) (cause : Cause) :
    (s.teardown cause).mu = { s.mu with
      rollTimer := none, joinTimer := none, rollDue := false, joinedPending := false
      rollOnLine := if cause = .stationLeft then s.mu.rollOnLine else .off } := by
  have hmu : (((s.sessionTeardown cause).groupTeardown cause).clearPeers).mu = s.mu := by simp
  unfold State.teardown
  dsimp only
  rw [hmu]

/-- The station number and the rate are as they were. -/
def sameStraps (s t : State) : Prop := t.mu.number = s.mu.number ∧ t.mu.rate = s.mu.rate

theorem Act.straps {s t : State} (h : Act s t) : sameStraps s t := by
  refine ⟨h.number, ?_⟩
  cases h with
  | flags mu _ _ hrate => exact hrate
  | teardown st cause _ _ => rw [teardown_mu, State.become_mu]
  | _ => simp

theorem Deed.straps {s t : State} (h : Deed s t) : sameStraps s t := by
  cases h with
  | act h => exact h.straps
  | peerAbsent p cause _ => exact ⟨by simp, by simp⟩
  | age => exact ⟨by simp, by simp⟩

theorem Deeds.straps {s t : State} (h : Deeds s t) : sameStraps s t :=
  h.keep (I := sameStraps s) (fun hstep hu => ⟨hstep.straps.1.trans hu.1, hstep.straps.2.trans hu.2⟩) ⟨rfl, rfl⟩

/-- The registers of the host's side that a command may leave alone. -/
def sameRegisters (s t : State) : Prop := t.pending = s.pending ∧ t.inReset = s.inReset ∧ t.cfg = s.cfg ∧ t.ticket = s.ticket

theorem execute_registers {s : State} {command : State → State} (h : sameRegisters s.csnHigh (command s.csnHigh)) :
    sameRegisters s (s.execute command) := by
  unfold State.execute
  split
  · exact h
  · exact ⟨rfl, rfl, rfl, rfl⟩

theorem fetchHead_registers (s : State) (tag : Byte) :
    sameRegisters s (s.fetchHead tag) ∧ (s.fetchHead tag).mu = s.mu := by
  unfold State.fetchHead
  split
  · exact ⟨⟨rfl, rfl, rfl, rfl⟩, rfl⟩
  · split <;> exact ⟨⟨rfl, rfl, rfl, rfl⟩, rfl⟩

theorem reportHead_registers (s : State) (tag : Byte) :
    sameRegisters s (s.reportHead tag) ∧ (s.reportHead tag).mu = s.mu := by
  unfold State.reportHead
  split
  · exact ⟨⟨rfl, rfl, rfl, rfl⟩, rfl⟩
  · exact ⟨⟨rfl, rfl, rfl, rfl⟩, rfl⟩
  · split <;> exact ⟨⟨rfl, rfl, rfl, rfl⟩, rfl⟩

theorem exec_straps {c : Instr} {s t : State} (hreset : isResetRow c = false) (h : exec c s = .next t) : sameStraps s t := by
  have hmu : ∀ command : State → State, (∀ u, (command u).mu = u.mu) → (s.execute command).mu = s.mu := fun command hu => by
    unfold State.execute
    split
    · exact hu _
    · rfl
  by_cases hfetch : ∃ tag, c = .fetch tag
  · obtain ⟨tag, rfl⟩ := hfetch
    cases h
    have := hmu (fun u => u.fetchHead tag) fun u => (fetchHead_registers u tag).2
    exact ⟨by rw [this], by rw [this]⟩
  by_cases hreport : ∃ tag, c = .report tag
  · obtain ⟨tag, rfl⟩ := hreport
    cases h
    have := hmu (fun u => u.reportHead tag) fun u => (reportHead_registers u tag).2
    exact ⟨by rw [this], by rw [this]⟩
  exact (exec_deeds hreset (fun tag htag => hfetch ⟨tag, htag⟩) (fun tag htag => hreport ⟨tag, htag⟩) h).straps

theorem withdraw_registers (s : State) (k : SlotId) : sameRegisters s (s.withdraw k) := by
  unfold State.withdraw
  split
  · exact ⟨rfl, rfl, rfl, rfl⟩
  · split <;> simp [sameRegisters]

theorem post_registers (s : State) (tag dest priority : Byte) (payload : List Byte) :
    (s.post tag dest priority payload).pending = s.pending ∧ (s.post tag dest priority payload).inReset = s.inReset ∧
    (s.post tag dest priority payload).cfg = s.cfg := by
  have hhand : ∀ (u : State) k d urgent, (u.handOver k d urgent).pending = u.pending ∧
      (u.handOver k d urgent).inReset = u.inReset ∧ (u.handOver k d urgent).cfg = u.cfg := fun u k d urgent => by
    cases d <;> simp [State.handOver]
  have hto : ∀ d urgent, (s.postTo tag d urgent payload).pending = s.pending ∧
      (s.postTo tag d urgent payload).inReset = s.inReset ∧ (s.postTo tag d urgent payload).cfg = s.cfg := fun d urgent => by
    unfold State.postTo
    split
    · exact ⟨rfl, rfl, rfl⟩
    · split
      · exact ⟨rfl, rfl, rfl⟩
      · simp [hhand]
  unfold State.post
  split
  · exact ⟨rfl, rfl, rfl⟩
  · split
    · exact ⟨rfl, rfl, rfl⟩
    · split
      · exact ⟨rfl, rfl, rfl⟩
      · split
        · exact ⟨rfl, rfl, rfl⟩
        · split
          · exact ⟨rfl, rfl, rfl⟩
          · exact hto _ _

/-- The end of a transaction leaves the queue and RSTN alone, the configuration block but for CONFIGURE in DETACHED, and the ticket
counter but for POST and RESTART. -/
theorem transactionEnd_registers {c : Instr} {s t : State} (hend : isTransactionEnd c = true) (h : exec c s = .next t) :
    t.pending = s.pending ∧
    ((∀ tag a b d e f, c ≠ .configure tag a b d e f) ∨ s.mu.station ≠ .detached → t.cfg = s.cfg) ∧
    (isResetRow c = false → (∀ tag d u pl, c ≠ .post tag d u pl) → t.ticket = s.ticket) ∧
    (isResetRow c = false → t.inReset = s.inReset) := by
  have hsame : ∀ {t : State}, sameRegisters s t → t.pending = s.pending ∧
      ((∀ tag a b d e f, c ≠ .configure tag a b d e f) ∨ s.mu.station ≠ .detached → t.cfg = s.cfg) ∧
      (isResetRow c = false → (∀ tag d u pl, c ≠ .post tag d u pl) → t.ticket = s.ticket) ∧
      (isResetRow c = false → t.inReset = s.inReset) := fun hr => ⟨hr.1, fun _ => hr.2.2.1, fun _ _ => hr.2.2.2, fun _ => hr.2.1⟩
  cases c with
  | incompleteTransaction bytes =>
    cases h
    refine hsame ?_
    split <;> exact ⟨rfl, rfl, rfl, rfl⟩
  | badCommand tag code args =>
    cases h
    refine hsame ?_
    split
    · exact ⟨rfl, rfl, rfl, rfl⟩
    · split
      · exact ⟨rfl, rfl, rfl, rfl⟩
      · exact execute_registers ⟨rfl, rfl, rfl, rfl⟩
  | nop tag | status tag =>
    cases h
    exact hsame (execute_registers ⟨rfl, rfl, rfl, rfl⟩)
  | peer tag number =>
    cases h
    refine hsame (execute_registers ?_)
    split <;> exact ⟨rfl, rfl, rfl, rfl⟩
  | configure tag a b d e f =>
    cases h
    unfold State.execute
    by_cases hst : s.mu.station = .detached
    · refine ⟨?_, fun hno => absurd hno (by simp [hst]), fun _ _ => ?_, fun _ => ?_⟩ <;>
      · split
        · simp only [State.csnHigh_mu, hst, if_true]
          split <;> rfl
        · rfl
    · refine hsame ?_
      split
      · simp only [State.csnHigh_mu, hst, if_false]
        exact ⟨rfl, rfl, rfl, rfl⟩
      · exact ⟨rfl, rfl, rfl, rfl⟩
  | join tag | resume tag =>
    cases h
    refine hsame (execute_registers ?_)
    split <;> simp [sameRegisters]
  | leave tag =>
    cases h
    refine hsame (execute_registers ?_)
    split <;> simp [sameRegisters]
  | restart tag addr rate =>
    cases h
    unfold State.execute
    split
    · exact ⟨rfl, fun _ => rfl, nofun, nofun⟩
    · exact hsame ⟨rfl, rfl, rfl, rfl⟩
  | cancel tag ticket =>
    cases h
    refine hsame (execute_registers ?_)
    unfold State.cancelTicket
    split
    · exact withdraw_registers _ _
    · split <;> simp [sameRegisters]
  | fetch tag =>
    cases h
    exact hsame (execute_registers (fetchHead_registers _ tag).1)
  | report tag =>
    cases h
    exact hsame (execute_registers (reportHead_registers _ tag).1)
  | post tag dest priority payload =>
    have hpost : t.pending = s.pending ∧ t.inReset = s.inReset ∧ t.cfg = s.cfg := by
      cases h
      split
      · exact ⟨rfl, rfl, rfl⟩
      · unfold State.execute
        split
        · exact post_registers s.csnHigh tag dest priority payload
        · exact ⟨rfl, rfl, rfl⟩
    exact ⟨hpost.1, fun _ => hpost.2.2, fun _ hno => absurd rfl (hno tag dest priority payload), fun _ => hpost.2.1⟩
  | _ => cases hend

/-- A row that is no transaction's end and no reset changes none of the registers, and the fall of CSN alone the port. -/
theorem event_registers {c : Instr} {s t : State} (hend : isTransactionEnd c = false) (hreset : isResetRow c = false)
    (h : exec c s = .next t) : sameRegisters s t ∧ t.reply = s.reply ∧ (c ≠ .csnFall → t.port = s.port) := by
  have hall : ∀ {u : State}, t = u → u.pending = s.pending ∧ u.inReset = s.inReset ∧ u.port = s.port ∧ u.ticket = s.ticket ∧
      u.cfg = s.cfg ∧ u.reply = s.reply → sameRegisters s t ∧ t.reply = s.reply ∧ (c ≠ .csnFall → t.port = s.port) :=
    fun ht ⟨hpending, hlow, hport, hticket, hcfg, hreply⟩ => ht ▸ ⟨⟨hpending, hlow, hcfg, hticket⟩, hreply, fun _ => hport⟩
  cases c with
  | csnFall =>
    cases h
    refine ⟨?_, ?_, fun hne => absurd rfl hne⟩ <;> cases s.port <;> simp [sameRegisters]
  | lineSample level => cases h; exact hall rfl (s.sample_keeps level)
  | lineQuiet | longQuiet | lineHeld | lineReleased | frameViolation _ | openingMark | frameClose | lostContention | mismatch | sent =>
    cases h
    exact hall rfl (s.sampleIf_keeps _ _)
  | startPoint | breakoffEnd =>
    cases h
    refine hall rfl ?_
    split <;> simp
  | resynchronisation clocks =>
    cases h
    refine hall rfl ?_
    split
    · simp
    · split
      · simp
      · split
        · unfold State.endBitAtEdge
          split <;> simp
        · simp
  | clash _ | roll _ _ _ _ | openFrame _ _ _ | data _ _ _ _ _ | group _ _ _ _ _ | answerData _ _ _ _ | answerOpen _ _ _ _
  | answerGroup _ _ _ _ =>
    cases h
    exact hall rfl (s.frameCloses_keeps _)
  | joinTimerExpiry | rollTimerExpiry | leaveTimerExpiry =>
    cases h
    refine hall rfl ?_
    split <;> simp
  | openAnswerTimerExpiry p | answerTimerExpiry p =>
    cases h
    refine hall rfl ?_
    split
    · split <;> simp
    · simp
  | holdTimerExpiry p =>
    cases h
    refine hall rfl ?_
    split
    · split <;> simp
    · simp
  | laneAnswerTimerExpiry =>
    cases h
    refine hall rfl ?_
    split
    · split <;> simp
    · simp
  | hardwareReset | hardwareResetEnd _ _ | restart _ _ _ => cases hreset
  | _ => cases hend

/-- Settles O56. -/
theorem ownersOfRegisters : Obligations.OwnersOfRegisters := by
  intro c s t h
  by_cases hhard : isResetRow c = true ∧ ∀ tag addr rate, c ≠ .restart tag addr rate
  · refine ⟨?_, .inl hhard⟩
    cases c with
    | hardwareReset | hardwareResetEnd _ _ => cases h; rfl
    | restart tag addr rate => exact absurd rfl (hhard.2 tag addr rate)
    | _ => cases hhard.1
  · have hstraps := fun hreset => exec_straps (c := c) hreset h
    by_cases hend : isTransactionEnd c = true
    · obtain ⟨hpending, hcfg, hticket, hlow⟩ := transactionEnd_registers hend h
      exact ⟨hpending, .inr ⟨hcfg, fun hno => absurd hend (by simp [hno]), fun hno => absurd hend (by simp [hno]), hticket,
        fun hreset => ⟨hlow hreset, hstraps hreset⟩⟩⟩
    · have hreset : isResetRow c = false := by
        cases c with
        | hardwareReset | hardwareResetEnd _ _ => exact absurd ⟨rfl, nofun⟩ hhard
        | restart _ _ _ => exact absurd rfl hend
        | _ => rfl
      obtain ⟨⟨hpending, hlow, hcfg, hticket⟩, hreply, hport⟩ := event_registers (Bool.eq_false_iff.mpr hend) hreset h
      exact ⟨hpending, .inr ⟨fun _ => hcfg, fun _ => hreply, fun _ => hport, fun _ _ => hticket, fun _ => ⟨hlow, hstraps hreset⟩⟩⟩

end Sys2Proof.Machine
end

section
/-!
PROOFS. The station teardown (R75, R123, R155): the outcomes it sets, in one list, and the ways a station leaves MEMBER: LEAVE (O11),
the eighth failure (in O25) and a clash (O31).
-/
namespace Sys2Proof.Machine

open Sys2Proof Sys2Proof.Safety

/-! ### The slots and the report list -/

/-- The slots and the report list of two states are the same. -/
def sameStore (s t : State) : Prop := t.slots = s.slots ∧ t.report = s.report

theorem sameStore_refl (s : State) : sameStore s s := ⟨rfl, rfl⟩

theorem sameStore.trans {s t u : State} (h : sameStore s t) (h' : sameStore t u) : sameStore s u :=
  ⟨h'.1.trans h.1, h'.2.trans h.2⟩

theorem sameStore.setOutcome {s t : State} (h : sameStore s t) (k : SlotId) (o : ParcelOutcome) :
    sameStore (s.setOutcome k o) (t.setOutcome k o) := by
  obtain ⟨hslots, hreport⟩ := h
  unfold State.setOutcome
  rw [State.slot_congr hslots k]
  cases s.slot k <;> simp [sameStore, hslots, hreport]

theorem sameStore.settleAll {s t : State} (h : sameStore s t) (l : List (SlotId × ParcelOutcome)) :
    sameStore (s.settleAll l) (t.settleAll l) := by
  induction l generalizing s t with
  | nil => exact h
  | cons d l ih => exact ih (h.setOutcome d.1 d.2)

theorem settleAll_append (s : State) (l m : List (SlotId × ParcelOutcome)) : s.settleAll (l ++ m) = (s.settleAll l).settleAll m :=
  List.foldl_append

theorem sameStore_foldl {f : State → StationId → State} (hf : ∀ s p, sameStore s (f s p)) (l : List StationId) (s : State) :
    sameStore s (l.foldl f s) := by
  induction l generalizing s with
  | nil => exact sameStore_refl s
  | cons p l ih => exact (hf s p).trans (ih (f s p))

/-! ### The outcomes of a station teardown -/

/-- The outcomes of the breaks of these peers' sessions, in order (R121, R123). -/
def State.breaksOf (s : State) (cause : Cause) (l : List StationId) : List (SlotId × ParcelOutcome) :=
  l.flatMap fun p => match s.tx p with
    | some x => s.breakOutcomes p cause x
    | none => []

/-- The outcome of the lane's parcel at a teardown (R155). -/
def State.laneOutcome (s : State) (cause : Cause) (l : Lane) : ParcelOutcome :=
  groupOutcome (if s.laneCountsSent l cause then .unconfirmed else .notSent) cause l.answered l.missing

/-- The outcomes of a station teardown, in their order (R123, R155, R181). -/
def State.teardownPlan (s : State) (cause : Cause) : List (SlotId × ParcelOutcome) :=
  s.breaksOf cause allStations ++ (s.gu.lane.map fun l => (l.slot, s.laneOutcome cause l)).toList ++
    s.gu.waiting.map fun k => (k, groupOutcome .notSent cause 0 0)

theorem teardownPlan_slots (s : State) (cause : Cause) : (s.teardownPlan cause).map (·.1) = teardownOrder s := by
  have hbreaks : (s.breaksOf cause allStations).map (·.1) = allStations.flatMap fun p =>
      match s.tx p with
      | some x => x.window.map (·.slot) ++ x.waiting.map (·.slot)
      | none => [] := by
    rw [State.breaksOf, List.map_flatMap]
    refine List.flatMap_congr fun p _ => ?_
    cases s.tx p <;> simp [State.breakOutcomes, Function.comp_def]
  have hlane : ((s.gu.lane.map fun l => (l.slot, s.laneOutcome cause l)).toList).map (·.1) = (s.gu.lane.map (·.slot)).toList := by
    cases s.gu.lane <;> rfl
  simp only [State.teardownPlan, List.map_append, hbreaks, hlane, List.map_map, Function.comp_def, List.map_id']
  rfl

/-- What decides whether a parcel counts as sent: its flag, and the attempt in progress (R120). -/
theorem breakOutcomes_congr {s t : State} (htu : t.tu = s.tu) {x : TxSession} (hslots : ∀ e ∈ x.window, t.slot e.slot = s.slot e.slot)
    (p : StationId) (cause : Cause) : t.breakOutcomes p cause x = s.breakOutcomes p cause x := by
  have hsent : ∀ e ∈ x.window, t.breakOutcome p cause e = s.breakOutcome p cause e := fun e he => by
    have honce : t.sentOnce e.slot = s.sentOnce e.slot := by rw [State.sentOnce, State.sentOnce, hslots e he]
    have hsending : t.sending (.window p e.seq) = s.sending (.window p e.seq) := by rw [State.sending, State.sending, htu]
    rw [State.breakOutcome, State.breakOutcome, State.countsSent, State.countsSent, honce, hsending]
  rw [State.breakOutcomes, State.breakOutcomes]
  refine congrArg₂ _ (List.map_congr_left fun e he => ?_) rfl
  rw [hsent e he]

/-- The breaks one after another set the outcomes that the state before them gives: no break touches another session's slots. -/
theorem sameStore_breaks (cause : Cause) {l : List StationId} (hl : l.Nodup) {s : State} (hdiff : ((s.breaksOf cause l).map (·.1)).Nodup) :
    sameStore (s.settleAll (s.breaksOf cause l)) (l.foldl (fun u p => u.terminalBreak p cause) s) := by
  induction l generalizing s with
  | nil => exact sameStore_refl s
  | cons p l ih =>
    obtain ⟨hp, hl⟩ := List.nodup_cons.mp hl
    have hsplit : s.breaksOf cause (p :: l) = (match s.tx p with
        | some x => s.breakOutcomes p cause x
        | none => []) ++ s.breaksOf cause l := List.flatMap_cons
    rw [hsplit, List.map_append, List.nodup_append'] at hdiff
    obtain ⟨-, hrest, hdisjoint⟩ := hdiff
    rw [hsplit, settleAll_append, List.foldl_cons]
    cases htx : s.tx p with
    | none =>
      have hnone : s.terminalBreak p cause = s := by simp only [State.terminalBreak, htx]
      rw [hnone]
      exact ih hl hrest
    | some x =>
      rw [htx] at hdisjoint
      generalize hu : s.terminalBreak p cause = u
      have hfirst : sameStore (s.settleAll (s.breakOutcomes p cause x)) u := by
        rw [← hu, State.terminalBreak_of_tx htx]
        exact ⟨rfl, rfl⟩
      have htu : u.tu = s.tu := by rw [← hu]; simp
      have htxs : ∀ q ∈ l, u.tx q = s.tx q := fun q hq => by
        have hne : q ≠ p := fun heq => hp (heq ▸ hq)
        rw [← hu, State.tx, State.peer_terminalBreak, if_neg hne]
        rfl
      have hsame : u.breaksOf cause l = s.breaksOf cause l := by
        refine List.flatMap_congr fun q hq => ?_
        rw [htxs q hq]
        cases hy : s.tx q with
        | none => rfl
        | some y =>
          refine breakOutcomes_congr htu (fun e he => ?_) q cause
          have hmem : e.slot ∈ (s.breaksOf cause l).map (·.1) := by
            refine List.mem_map.mpr ⟨(e.slot, s.breakOutcome q cause e), List.mem_flatMap.mpr ⟨q, hq, ?_⟩, rfl⟩
            rw [hy]
            exact List.mem_append_left _ (List.mem_map_of_mem he)
          rw [State.slot_congr hfirst.1]
          refine State.slot_settleAll_of_notMem fun d hd heq => ?_
          exact hdisjoint (List.mem_map_of_mem hd) (heq ▸ hmem)
      exact (hfirst.settleAll (s.breaksOf cause l)).trans (hsame ▸ ih hl (hsame ▸ hrest))

/-- A station teardown sets the outcomes of its plan, in their order. -/
theorem sameStore_teardown (s : State) (cause : Cause) (hdiff : (teardownOrder s).Nodup) :
    sameStore (s.settleAll (s.teardownPlan cause)) (s.teardown cause) := by
  have hbreaks : ((s.breaksOf cause allStations).map (·.1)).Nodup := by
    rw [← teardownPlan_slots s cause, State.teardownPlan, List.append_assoc, List.map_append] at hdiff
    exact hdiff.of_append_left
  generalize hu : s.sessionTeardown cause = u
  have hsessions : sameStore (s.settleAll (s.breaksOf cause allStations)) u := by
    have h1 := sameStore_breaks cause allStations_nodup hbreaks
    have h2 := sameStore_foldl (f := fun s p => s.withRx p none) (fun _ _ => ⟨rfl, rfl⟩) allStations
      (allStations.foldl (fun u p => u.terminalBreak p cause) s)
    unfold State.sessionTeardown at hu
    dsimp only at hu
    generalize allStations.foldl (fun (s : State) p => s.withRx p none) _ = v at hu h2
    exact (h1.trans h2).trans (hu ▸ ⟨rfl, rfl⟩)
  have hgu : u.gu = s.gu := by rw [← hu]; simp
  have htu : u.tu = s.tu := by rw [← hu]; simp
  -- The Group Unit's part: the lane's parcel, then the waiting list.
  have hgroup : sameStore (u.settleAll ((s.gu.lane.map fun l => (l.slot, s.laneOutcome cause l)).toList ++
      s.gu.waiting.map fun k => (k, groupOutcome .notSent cause 0 0))) (u.groupTeardown cause) := by
    have hlane : sameStore (u.settleAll (s.gu.lane.map fun l => (l.slot, s.laneOutcome cause l)).toList) (u.teardownLane cause) ∧
        (u.teardownLane cause).gu.waiting = s.gu.waiting := by
      unfold State.teardownLane
      rw [hgu]
      cases s.gu.lane with
      | none => exact ⟨sameStore_refl u, by rw [hgu]⟩
      | some l =>
        have hcounts : u.laneCountsSent l cause = s.laneCountsSent l cause := by
          simp only [State.laneCountsSent, State.sending, htu]
        dsimp only
        rw [hcounts]
        refine ⟨⟨rfl, rfl⟩, ?_⟩
        simp only [State.endLane, State.setOutcome_keeps, hgu]
    rw [settleAll_append]
    refine (hlane.1.settleAll _).trans (?_ : sameStore _ _)
    have hfold := sameStore_foldl (f := fun s p => s.withLastGroup p none) (fun _ _ => ⟨rfl, rfl⟩) allStations
    unfold State.groupTeardown
    dsimp only
    refine sameStore.trans ?_ (hfold _)
    rw [hlane.2, State.setOutcomes_eq_settleAll]
    exact ⟨rfl, rfl⟩
  have hclear : sameStore (u.groupTeardown cause) (s.teardown cause) := by
    rw [State.teardown, hu]
    have := (u.groupTeardown cause).clearPeers_keeps
    generalize (u.groupTeardown cause).clearPeers = v at this ⊢
    exact ⟨by simp [this], by simp [this]⟩
  rw [State.teardownPlan, List.append_assoc, settleAll_append]
  exact ((hsessions.settleAll _).trans hgroup).trans hclear

/-! ### The slots of a teardown are all outstanding and all different (Table 5-1) -/

theorem teardownOrder_perm (s : State) : (teardownOrder s).Perm (flightRefs s ++ waitingRefs s) := by
  have hsplit : (allStations.flatMap fun p => match s.tx p with
      | some x => x.window.map (·.slot) ++ x.waiting.map (·.slot)
      | none => []) = allStations.flatMap fun p => windowOf (s.tx p) ++ waitingOf (s.tx p) := by
    refine List.flatMap_congr fun p _ => ?_
    cases s.tx p <;> rfl
  have hwindow : (allStations.flatMap fun p => match s.tx p with
      | some x => x.window.map (·.slot)
      | none => []) = allStations.flatMap fun p => windowOf (s.tx p) := by
    refine List.flatMap_congr fun p _ => ?_
    cases s.tx p <;> rfl
  have hwaiting : (allStations.flatMap fun p => match s.tx p with
      | some x => x.waiting.map (·.slot)
      | none => []) = allStations.flatMap fun p => waitingOf (s.tx p) := by
    refine List.flatMap_congr fun p _ => ?_
    cases s.tx p <;> rfl
  have horder : teardownOrder s =
      (allStations.flatMap fun p => windowOf (s.tx p) ++ waitingOf (s.tx p)) ++ (s.gu.lane.map (·.slot)).toList ++ s.gu.waiting :=
    congrArg (· ++ (s.gu.lane.map (·.slot)).toList ++ s.gu.waiting) hsplit
  have hflightRefs : flightRefs s = (allStations.flatMap fun p => windowOf (s.tx p)) ++ (s.gu.lane.map (·.slot)).toList :=
    congrArg (· ++ (s.gu.lane.map (·.slot)).toList) hwindow
  have hwaitingRefs : waitingRefs s = (allStations.flatMap fun p => waitingOf (s.tx p)) ++ s.gu.waiting :=
    congrArg (· ++ s.gu.waiting) hwaiting
  rw [horder, hflightRefs, hwaitingRefs]
  have hparts := (List.flatMap_append_perm allStations (fun p => windowOf (s.tx p)) fun p => waitingOf (s.tx p)).symm
  refine ((hparts.append_right _).append_right _).trans ?_
  generalize allStations.flatMap (fun p => windowOf (s.tx p)) = a
  generalize allStations.flatMap (fun p => waitingOf (s.tx p)) = b
  rw [List.append_assoc a b, List.append_assoc a, List.append_assoc a]
  refine List.Perm.append_left a ?_
  rw [← List.append_assoc _ b]
  exact List.perm_append_comm.append_right _

theorem teardownOrder_outstanding {s : State} (hheld : parcelsHeldOnce s) {k : SlotId} (hk : k ∈ teardownOrder s) :
    ∃ c, s.outstanding k c := by
  obtain ⟨hwaiting, hflight, -⟩ := hheld
  rcases List.mem_append.mp ((teardownOrder_perm s).mem_iff.mp hk) with hk | hk
  · exact (isInFlight_iff.mp (kind_of_mem_of_count_eq hflight hk)).imp fun _ => .inr
  · exact (isWaiting_iff.mp (kind_of_mem_of_count_eq hwaiting hk)).imp fun _ => .inl

theorem teardownOrder_nodup {s : State} (hheld : parcelsHeldOnce s) : (teardownOrder s).Nodup := by
  obtain ⟨hwaiting, hflight, -⟩ := hheld
  rw [(teardownOrder_perm s).nodup_iff, List.nodup_append']
  refine ⟨nodup_of_count_eq hflight, nodup_of_count_eq hwaiting, fun k hf hw => ?_⟩
  obtain ⟨c, hc⟩ := isInFlight_iff.mp (kind_of_mem_of_count_eq hflight hf)
  obtain ⟨d, hd⟩ := isWaiting_iff.mp (kind_of_mem_of_count_eq hwaiting hw)
  simp [hc] at hd

section
variable {s : State} {cause : Cause} (hheld : parcelsHeldOnce s)

include hheld

theorem teardownPlan_nodup : ((s.teardownPlan cause).map (·.1)).Nodup := by
  rw [teardownPlan_slots]
  exact teardownOrder_nodup hheld

theorem teardown_report : (s.teardown cause).report = s.report ++ (teardownOrder s).map .outcome := by
  have hout : ∀ d ∈ s.teardownPlan cause, ∃ c, s.outstanding d.1 c := fun d hd =>
    teardownOrder_outstanding hheld (teardownPlan_slots s cause ▸ List.mem_map_of_mem hd)
  rw [(sameStore_teardown s cause (teardownOrder_nodup hheld)).2, State.settleAll_eq (teardownPlan_nodup hheld) hout,
    ← teardownPlan_slots s cause, List.map_map]
  rfl

/-- Each parcel of the plan has its outcome after the teardown. -/
theorem slot_teardown_of_mem {k : SlotId} {o : ParcelOutcome} {c : Parcel} (hmem : (k, o) ∈ s.teardownPlan cause)
    (hc : s.outstanding k c) : (s.teardown cause).slot k = .done c o := by
  rw [State.slot_congr (sameStore_teardown s cause (teardownOrder_nodup hheld)).1]
  exact State.slot_settleAll_of_mem (teardownPlan_nodup hheld) hmem hc

theorem slot_teardown_of_notMem {k : SlotId} (hk : k ∉ teardownOrder s) : (s.teardown cause).slot k = s.slot k := by
  rw [State.slot_congr (sameStore_teardown s cause (teardownOrder_nodup hheld)).1]
  refine State.slot_settleAll_of_notMem fun d hd heq => hk ?_
  rw [← teardownPlan_slots s cause, ← heq]
  exact List.mem_map_of_mem hd

end

/-! ### The outcomes of the plan (R121, R123, R155) -/

section
variable {s : State} {cause : Cause}

theorem mem_plan_of_session {p : StationId} {x : TxSession} (hx : s.tx p = some x) {d : SlotId × ParcelOutcome}
    (hd : d ∈ s.breakOutcomes p cause x) : d ∈ s.teardownPlan cause := by
  refine List.mem_append_left _ (List.mem_append_left _ (List.mem_flatMap.mpr ⟨p, mem_allStations p, ?_⟩))
  rw [hx]
  exact hd

theorem mem_plan_of_lane {l : Lane} (hl : s.gu.lane = some l) : (l.slot, s.laneOutcome cause l) ∈ s.teardownPlan cause := by
  refine List.mem_append_left _ (List.mem_append_right _ ?_)
  rw [hl]
  exact List.mem_singleton.mpr rfl

theorem mem_plan_of_waiting {k : SlotId} (hk : k ∈ s.gu.waiting) :
    (k, groupOutcome .notSent cause 0 0) ∈ s.teardownPlan cause :=
  List.mem_append_right _ (List.mem_map.mpr ⟨k, hk, rfl⟩)

/-- Every outcome of the plan is a window entry's, a session's waiting parcel's, the lane's or a waiting group parcel's. -/
theorem plan_cases {k : SlotId} {o : ParcelOutcome} (h : (k, o) ∈ s.teardownPlan cause) :
    (∃ p x e, s.tx p = some x ∧ e ∈ x.window ∧ e.slot = k ∧ o = s.breakOutcome p cause e) ∨
    (∃ p x w, s.tx p = some x ∧ w ∈ x.waiting ∧ w.slot = k ∧ o = directOutcome .notSent cause) ∨
    (∃ l, s.gu.lane = some l ∧ l.slot = k ∧ o = s.laneOutcome cause l) ∨
    (k ∈ s.gu.waiting ∧ o = groupOutcome .notSent cause 0 0) := by
  rcases List.mem_append.mp h with h | h
  · rcases List.mem_append.mp h with h | h
    · obtain ⟨p, -, hp⟩ := List.mem_flatMap.mp h
      cases hx : s.tx p with
      | none => simp [hx] at hp
      | some x =>
        rw [hx] at hp
        rcases List.mem_append.mp hp with hp | hp
        · obtain ⟨e, he, heq⟩ := List.mem_map.mp hp
          cases heq
          exact .inl ⟨p, x, e, hx, he, rfl, rfl⟩
        · obtain ⟨w, hw, heq⟩ := List.mem_map.mp hp
          cases heq
          exact .inr (.inl ⟨p, x, w, hx, hw, rfl, rfl⟩)
    · obtain ⟨l, hl, heq⟩ := Option.map_eq_some_iff.mp (Option.mem_toList.mp h)
      cases heq
      exact .inr (.inr (.inl ⟨l, hl, rfl, rfl⟩))
  · obtain ⟨j, hj, heq⟩ := List.mem_map.mp h
    cases heq
    exact .inr (.inr (.inr ⟨hj, rfl⟩))

theorem plan_cause {k : SlotId} {o : ParcelOutcome} (h : (k, o) ∈ s.teardownPlan cause) : o.cause = cause := by
  rcases plan_cases h with ⟨p, x, e, -, -, -, rfl⟩ | ⟨p, x, w, -, -, -, rfl⟩ | ⟨l, -, -, rfl⟩ | ⟨-, rfl⟩ <;> rfl

theorem laneCountsSent_iff (l : Lane) : s.laneCountsSent l cause = true ↔
    l.sentOnce = true ∨ (cause ≠ .clash ∧ (s.tu.state = .contend ∨ s.tu.state = .send) ∧
      s.tu.buffer.map (·.owner) = some (.lane l.slot l.seq)) := by
  simp only [State.laneCountsSent, State.sending, Bool.or_eq_true, Bool.and_eq_true, decide_eq_true_eq]

/-- A state whose slots record the outcomes of the plan, each in its slot, has the outcomes of a teardown. -/
theorem teardownOutcomes_of_plan {t : State} (hheld : parcelsHeldOnce s)
    (hmem : ∀ k o c, (k, o) ∈ s.teardownPlan cause → s.outstanding k c → t.slot k = .done c o)
    (hnot : ∀ k, k ∉ teardownOrder s → t.slot k = s.slot k) : teardownOutcomes s cause t := by
  refine ⟨fun p x hx => ⟨fun e he => ?_, fun w hw => ?_⟩, fun l hl => ?_, fun k hk => ?_, hnot⟩
  · obtain ⟨c, hc⟩ := slot_inFlight_of_heldOnce hheld hx he
    exact ⟨c, hc, hmem _ _ c (mem_plan_of_session hx (List.mem_append_left _ (List.mem_map_of_mem he))) (.inr hc)⟩
  · obtain ⟨c, hc⟩ := slot_waiting_of_heldOnce hheld hx hw
    exact ⟨c, hc, hmem _ _ c (mem_plan_of_session hx (List.mem_append_right _ (List.mem_map_of_mem hw))) (.inl hc)⟩
  · obtain ⟨-, hflight, -⟩ := hheld
    have hk : l.slot ∈ flightRefs s := List.mem_append_right _ (by rw [hl]; exact List.mem_singleton.mpr rfl)
    obtain ⟨c, hc⟩ := isInFlight_iff.mp (kind_of_mem_of_count_eq hflight hk)
    refine ⟨c, hc, (hmem _ _ c (mem_plan_of_lane hl) (.inr hc)).trans ?_⟩
    simp only [State.laneOutcome, laneCountsSent_iff]
    rfl
  · obtain ⟨hwaiting, -⟩ := hheld
    obtain ⟨c, hc⟩ := isWaiting_iff.mp (kind_of_mem_of_count_eq hwaiting (List.mem_append_right _ hk))
    exact ⟨c, hc, hmem _ _ c (mem_plan_of_waiting hk) (.inl hc)⟩

/-- The plan reads the sessions, the slots and the Group Unit, and the attempt in progress unless the cause is CLASH. -/
theorem teardownPlan_congr {u : State} (hpeers : u.peers = s.peers) (hslots : u.slots = s.slots) (hgu : u.gu = s.gu)
    (htu : cause = .clash ∨ u.tu = s.tu) : u.teardownPlan cause = s.teardownPlan cause := by
  have hsending : ∀ o, (decide (cause ≠ .clash) && u.sending o) = (decide (cause ≠ .clash) && s.sending o) := fun o => by
    rcases htu with rfl | htu
    · rfl
    · rw [State.sending, State.sending, htu]
  have hlane : ∀ l, u.laneOutcome cause l = s.laneOutcome cause l := fun l => by
    rw [State.laneOutcome, State.laneOutcome, State.laneCountsSent, State.laneCountsSent, hsending]
  have hbreak : ∀ p e, u.breakOutcome p cause e = s.breakOutcome p cause e := fun p e => by
    have honce : u.sentOnce e.slot = s.sentOnce e.slot := by rw [State.sentOnce, State.sentOnce, State.slot_congr hslots]
    rw [State.breakOutcome, State.breakOutcome, State.countsSent, State.countsSent, hsending, honce]
  have hbreaks : u.breaksOf cause allStations = s.breaksOf cause allStations := by
    refine List.flatMap_congr fun p _ => ?_
    rw [State.tx_congr hpeers p]
    cases s.tx p with
    | none => rfl
    | some x => simp only [State.breakOutcomes, hbreak]
  simp only [State.teardownPlan, hbreaks, hgu, hlane]

end

/-! ### A station that leaves MEMBER (R75) -/

theorem teardown_counter (s : State) (cause : Cause) : (s.teardown cause).gu.counter = s.gu.counter := by
  have hgu : (s.teardown cause).gu = ((s.sessionTeardown cause).groupTeardown cause).gu := by
    simp only [State.teardown, State.clearPeers_keeps]
  have hfold : ∀ u : State, (allStations.foldl (fun s p => s.withLastGroup p none) u).gu = u.gu :=
    foldl_keeps State.gu (fun (s : State) p => s.withLastGroup p none) (fun _ _ => rfl) allStations
  have hlane : ∀ u : State, (u.teardownLane cause).gu.counter = u.gu.counter := fun u => by
    unfold State.teardownLane
    split
    · rfl
    · simp [State.endLane]
  rw [hgu]
  unfold State.groupTeardown
  dsimp only
  rw [hfold]
  simp [hlane]

theorem tornDown_teardown (s : State) (cause : Cause) : tornDown (s.teardown cause) := by
  refine ⟨fun p => ?_, State.teardown_answers s cause, (State.teardown_gu s cause).1, (State.teardown_gu s cause).2, ?_⟩
  · rw [State.peer_teardown]
    split
    · next hself => exact ⟨rfl, rfl, rfl, fun hne => absurd hself hne⟩
    · exact ⟨rfl, rfl, rfl, fun _ => rfl⟩
  · rw [teardown_mu]
    exact ⟨rfl, rfl, rfl⟩

theorem nothingOutstanding_teardown {s : State} (hheld : parcelsHeldOnce s) (cause : Cause) (hst : s.mu.station ≠ .member) :
    nothingOutstanding (s.teardown cause) := by
  obtain ⟨hpeers, hanswers, hlane, hwaiting, -⟩ := tornDown_teardown s cause
  refine nothingOutstanding_of_heldOnce (parcelsHeldOnce_teardown cause hheld) ⟨fun p hp => ?_, fun _ => ⟨hanswers, hlane, hwaiting⟩⟩
    (by rw [(State.teardown_station s cause).1]; exact hst)
  obtain ⟨htx, hrx, -⟩ := hpeers p
  rcases hp with h | h
  · exact absurd htx h
  · exact absurd hrx h

/-- What a station that leaves MEMBER leaves behind (R75, R121, R155, R181). -/
theorem leaveMember {s : State} (hheld : parcelsHeldOnce s) (st : StationState) (cause : Cause) (hst : st ≠ .member)
    (htu : cause = .clash ∨ (s.become st).tu = s.tu) :
    tornDown ((s.become st).teardown cause) ∧ nothingOutstanding ((s.become st).teardown cause) ∧
    teardownOutcomes s cause ((s.become st).teardown cause) ∧
    ((s.become st).teardown cause).report = s.report ++ (teardownOrder s).map .outcome ∧
    ((s.become st).teardown cause).gu.counter = s.gu.counter ∧
    ∀ k, ((s.become st).teardown cause).slot k ≠ s.slot k → ∃ c o, (k, o) ∈ s.teardownPlan cause ∧ s.outstanding k c ∧
      ((s.become st).teardown cause).slot k = .done c o := by
  have hpeers : (s.become st).peers = s.peers := by simp
  have hslots : (s.become st).slots = s.slots := by simp
  have hgu : (s.become st).gu = s.gu := by simp
  have hreport : (s.become st).report = s.report := by simp
  have hplan := teardownPlan_congr (s := s) hpeers hslots hgu htu
  have horder : teardownOrder (s.become st) = teardownOrder s := by
    rw [← teardownPlan_slots (s.become st) cause, hplan, teardownPlan_slots]
  have hheld' : parcelsHeldOnce (s.become st) :=
    parcelsHeldOnce_of_same (fun q => State.tx_congr hpeers q) hgu hslots hheld
  have hmem : ∀ k o c, (k, o) ∈ s.teardownPlan cause → s.outstanding k c →
      ((s.become st).teardown cause).slot k = .done c o := fun k o c hko hc =>
    slot_teardown_of_mem hheld' (hplan ▸ hko) (by rwa [State.outstanding, State.slot_congr hslots])
  have hnot : ∀ k, k ∉ teardownOrder s → ((s.become st).teardown cause).slot k = s.slot k := fun k hk =>
    (slot_teardown_of_notMem hheld' (horder ▸ hk)).trans (State.slot_congr hslots k)
  refine ⟨tornDown_teardown _ _, nothingOutstanding_teardown hheld' cause (by simpa using hst),
    teardownOutcomes_of_plan hheld hmem hnot, ?_, ?_, fun k hk => ?_⟩
  · rw [teardown_report hheld', horder, hreport]
  · rw [teardown_counter, hgu]
  · have hin : k ∈ teardownOrder s := by
      by_contra hno
      exact hk (hnot k hno)
    obtain ⟨c, hc⟩ := teardownOrder_outstanding hheld hin
    rw [← teardownPlan_slots s cause] at hin
    obtain ⟨⟨k', o⟩, hko, rfl⟩ := List.mem_map.mp hin
    exact ⟨c, o, hko, hc, hmem _ _ _ hko hc⟩

/-! ### LEAVE (O11) -/

theorem exec_leave_of_takes {s : State} (h : takes s) (tag : Byte) :
    exec (.leave tag) s = .next (match s.csnHigh.mu.station with
      | .member => s.csnHigh.beginLeave.replyWith tag 0x12 .ok []
      | .joining => s.csnHigh.leaveAtOnce.replyWith tag 0x12 .ok []
      | .silenced => s.csnHigh.leaveAtOnce.replyWith tag 0x12 .ok []
      | _ => s.csnHigh.replyWith tag 0x12 .busy []) := by
  refine (congrArg Host.Outcome.next (State.execute_of_takes h _)).trans ?_
  rfl

/-- The peer table cleared, and nothing else (R75, R81). -/
theorem clearPeers_fields (s : State) : s.clearPeers = { s with peers := s.clearPeers.peers } := by
  have h := s.clearPeers_keeps
  generalize s.clearPeers = v at h ⊢
  obtain ⟨hpending, hreset, hport, hlm, hfr, htu, hmu, hslots, hdelivered, hticket, hanswers, hgu, hcfg, hreply, hreport⟩ := h
  cases v
  subst hpending hreset hport hlm hfr htu hmu hslots hdelivered hticket hanswers hgu hcfg hreply hreport
  rfl

theorem leaveAtOnce_eq (s : State) :
    s.leaveAtOnce = { s with
      mu := { s.mu with station := .detached, joinTimer := none }
      tu := if s.tu.state = .wait then s.tu else { waiting s.tu with lout := recessive }
      peers := (s.become .detached).clearPeers.peers
      report := reportWithNotice s.report .left none } := by
  have h := clearPeers_fields (s.become .detached)
  unfold State.leaveAtOnce
  generalize (s.become .detached).clearPeers = v at h ⊢
  obtain ⟨x, hx⟩ : ∃ x, v.peers = x := ⟨_, rfl⟩
  rw [hx, become_idle s rfl] at h
  rw [hx, h]
  rfl

/-- Settles O11: in MEMBER the teardown's outcomes, elsewhere the cleared peer table. -/
theorem leave : Obligations.Leave := by
  refine ⟨fun s tag htakes hst => ?_, fun s tag htakes hst hheld => ?_⟩
  · have hexec : exec (.leave tag) s = .next (s.csnHigh.leaveAtOnce.replyWith tag 0x12 .ok []) := by
      rw [exec_leave_of_takes htakes]
      rcases hst with hst | hst <;> simp only [State.csnHigh_mu, hst]
    refine ⟨_, hexec, ?_⟩
    have hpeer : ∀ p, (s.csnHigh.become .detached).clearPeers.peer p = _ := State.peer_clearPeers _
    have hpeers : (s.csnHigh.become .detached).peers = s.peers := by simp
    simp only [State.peer_congr hpeers] at hpeer
    rw [leaveAtOnce_eq]
    generalize (s.csnHigh.become .detached).clearPeers = v at hpeer ⊢
    exact ⟨rfl, hpeer⟩
  · have hexec : exec (.leave tag) s = .next (s.csnHigh.beginLeave.replyWith tag 0x12 .ok []) := by
      rw [exec_leave_of_takes htakes]
      simp only [State.csnHigh_mu, hst]
    have hdriving : s.csnHigh.become .leaving = { s.csnHigh with mu := { s.mu with station := .leaving } } :=
      become_driving _ rfl
    have hleft := leaveMember (s := s.csnHigh) hheld .leaving .stationLeft (by simp) (.inr (by rw [hdriving]))
    have hkeeps := (s.csnHigh.become .leaving).teardown_keeps .stationLeft
    have hmu := teardown_mu (s.csnHigh.become .leaving) .stationLeft
    have hfields : s.csnHigh.beginLeave = { (s.csnHigh.become .leaving).teardown .stationLeft with
        mu := { ((s.csnHigh.become .leaving).teardown .stationLeft).mu with
          rollDue := true, leaveTimer := some s.cfg.rollMillis, leaveExpired := false } } := rfl
    refine ⟨_, hexec, ?_⟩
    rw [hfields]
    generalize (s.csnHigh.become .leaving).teardown .stationLeft = v at hleft hkeeps hmu ⊢
    obtain ⟨htorn, hnothing, houtcomes, hreport, hcounter, hchanged⟩ := hleft
    obtain ⟨hpending, hreset, hport, hlm, hfr, htu, hdelivered, hticket, hcfg, hreply⟩ := hkeeps
    rw [hdriving] at hpending hreset hport hlm hfr htu hdelivered hticket hcfg hreply hmu
    refine ⟨?_, rfl, rfl, rfl, ?_, htorn, hnothing, htu, hlm, hfr, hcfg, hticket, hdelivered, hcounter, hpending, hreset, ?_, ?_,
      hport, rfl, fun k hk => ?_, houtcomes, hreport⟩
    · show v.mu.station = _
      rw [hmu]
    · show v.mu.rollOnLine = _
      rw [hmu]
      rfl
    · show v.mu.number = _
      rw [hmu]
    · show v.mu.rate = _
      rw [hmu]
    · obtain ⟨c, o, hko, hc, hdone⟩ := hchanged k hk
      exact ⟨c, o, hc, hdone, plan_cause hko⟩

/-! ### CLASH (O31) -/

theorem exec_clash {s : State} {m : Msg} (hreset : s.inReset = false) (hvalid : (m.withSrc s.mu.number).valid = true) :
    exec (.clash m) s = .next s.atClosingMark.onClash := by
  have hsrc : (m.withSrc s.mu.number).src = s.mu.number := by cases m <;> rfl
  have hexec : exec (.clash m) s = .next (s.frameCloses (m.withSrc s.mu.number)) := rfl
  rw [hexec, State.frameCloses, if_neg (by simp [hreset]), if_pos hvalid, State.useFrame, State.atClosingMark_mu,
    if_pos hsrc]

/-- At a clash the sent-once flag alone decides (R77, R121). -/
theorem plan_clash {s : State} (hheld : parcelsHeldOnce s) {k : SlotId} {o : ParcelOutcome} (h : (k, o) ∈ s.teardownPlan .clash) :
    (∀ c, s.slot k = .waiting c → o.code = .notSent) ∧
    ∀ (p : StationId) (c : Parcel), s.slot k = .inFlight c → c.dest = .station p →
      o.code = if c.sentOnce = true then .unconfirmed else .notSent := by
  have hheld' := hheld
  obtain ⟨hwaiting, hflight, -, -, hlane⟩ := hheld'
  rcases plan_cases h with ⟨p, x, e, hx, he, rfl, rfl⟩ | ⟨p, x, w, hx, hw, rfl, rfl⟩ | ⟨l, hl, rfl, rfl⟩ | ⟨hk, rfl⟩
  · obtain ⟨c, hc⟩ := slot_inFlight_of_heldOnce hheld hx he
    refine ⟨fun d hd => by simp [hc] at hd, fun p' d hd _ => ?_⟩
    rw [hc] at hd
    cases hd
    simp only [State.breakOutcome, State.countsSent_iff hc]
    simp [directOutcome]
  · obtain ⟨c, hc⟩ := slot_waiting_of_heldOnce hheld hx hw
    exact ⟨fun _ _ => rfl, fun p' d hd _ => by simp [hc] at hd⟩
  · have hin : l.slot ∈ flightRefs s := List.mem_append_right _ (by rw [hl]; exact List.mem_singleton.mpr rfl)
    obtain ⟨c, hc⟩ := isInFlight_iff.mp (kind_of_mem_of_count_eq hflight hin)
    obtain ⟨g, hg⟩ := hlane l hl
    refine ⟨fun d hd => by simp [hc] at hd, fun p' d hd hdest => ?_⟩
    rw [hd] at hg
    simp [destOf, Slot.parcel, hdest] at hg
  · obtain ⟨c, hc⟩ := isWaiting_iff.mp (kind_of_mem_of_count_eq hwaiting (List.mem_append_right _ hk))
    exact ⟨fun _ _ => rfl, fun p' d hd _ => by simp [hc] at hd⟩

/-- Settles O31: in MEMBER the teardown's outcomes, in JOINING the cleared peer table, with the notice last. -/
theorem clash : Obligations.Clash := by
  intro s m hreset hvalid
  rw [exec_clash hreset hvalid]
  refine ⟨fun hst hheld => ?_, fun hst => ?_, fun hmember hjoining => ?_⟩
  · have hheld' : parcelsHeldOnce s.atClosingMark := hheld
    have hclash : s.atClosingMark.onClash = ((s.atClosingMark.become .halted).teardown .clash).raise .halted none := by
      simp only [State.onClash, State.atClosingMark_mu, hst]
    have hleft := leaveMember hheld' .halted .clash (by simp) (.inl rfl)
    have hkeeps := (s.atClosingMark.become .halted).teardown_keeps .clash
    have hmu := teardown_mu (s.atClosingMark.become .halted) .clash
    refine ⟨_, rfl, ?_⟩
    rw [hclash]
    generalize (s.atClosingMark.become .halted).teardown .clash = v at hleft hkeeps hmu ⊢
    rw [become_idle s.atClosingMark rfl] at hkeeps hmu
    obtain ⟨htorn, hnothing, houtcomes, hreport, hcounter, hchanged⟩ := hleft
    obtain ⟨-, -, -, hlm, hfr, htu, hdelivered, -, hcfg, hreply⟩ := hkeeps
    refine ⟨?_, htorn, hnothing, htu, hlm, hfr, hdelivered, hcfg, hreply, ?_, ?_, hcounter, fun k hk => ?_, houtcomes, ?_⟩
    · show v.mu.station = _
      rw [hmu]
    · show v.mu.rollDue = _
      rw [hmu]
    · show v.mu.rollOnLine = _
      rw [hmu]
      rfl
    · obtain ⟨c, o, hko, hc, hdone⟩ := hchanged k hk
      obtain ⟨hwaiting, hflight⟩ := plan_clash hheld' hko
      refine ⟨c, o, hc, hdone, plan_cause hko, fun hw => hwaiting c hw, fun p hf hdest => hflight p c hf hdest⟩
    · rw [State.raise_report, hreport]
      rfl
  · have hclash : s.atClosingMark.onClash = ({ (s.atClosingMark.become .halted).clearPeers with
        mu := { (s.atClosingMark.become .halted).clearPeers.mu with joinTimer := none } } : State).raise .halted none := by
      simp only [State.onClash, State.atClosingMark_mu, hst]
    have hfields := clearPeers_fields (s.atClosingMark.become .halted)
    have hpeer : ∀ p, (s.atClosingMark.become .halted).clearPeers.peer p = _ := State.peer_clearPeers _
    have hpeers : (s.atClosingMark.become .halted).peers = s.peers := by simp
    simp only [State.peer_congr hpeers] at hpeer
    refine ⟨_, rfl, ?_⟩
    rw [hclash]
    generalize (s.atClosingMark.become .halted).clearPeers = v at hfields hpeer ⊢
    refine ⟨?_, hpeer⟩
    obtain ⟨x, hx⟩ : ∃ x, v.peers = x := ⟨_, rfl⟩
    rw [hx, become_idle s.atClosingMark rfl] at hfields
    rw [hfields]
    rfl
  · refine congrArg Host.Outcome.next ?_
    unfold State.onClash
    split
    · next h => exact absurd h hmember
    · next h => exact absurd h hjoining
    · rfl

/-! ### BREAKOFF_END and the eighth failure (O25) -/

theorem become_waiting {s : State} (h : s.tu.state = .wait) (st : StationState) :
    s.become st = { s with mu := { s.mu with station := st } } := by
  cases hst : st.mayDrive with
  | true => exact become_driving s hst
  | false => rw [become_idle s hst, if_pos h]

/-- The end of a leave, with no attempt in progress (R79, R80). -/
theorem leaveDone_eq {s : State} (h : s.tu.state = .wait) :
    s.leaveDone = { s with
      mu := { s.mu with station := .detached, leaveTimer := none, leaveExpired := false, rollDue := false, rollOnLine := .off }
      report := reportWithNotice s.report .left none } := by
  unfold State.leaveDone
  rw [become_waiting h]
  rfl

theorem eighthFailure_of_member {s : State} (hst : s.mu.station = .member) :
    s.eighthFailure = ((s.become .silenced).teardown .transmitFault).raise .silenced none := by
  simp only [State.eighthFailure, hst]

/-- The boundary after a break-off's twelfth bit (R50). -/
theorem exec_breakoffEnd {s : State} (hreset : s.inReset = false) (hsampled : s.lm.sampled = true) (hst : s.tu.state = .breakoff)
    (hbits : s.tu.breakoffBits = 12) : exec .breakoffEnd s = .next s.nextBit.attemptFailed := by
  have hover : s.breakoffOver = true := decide_eq_true ⟨hst, hbits⟩
  have hexec : exec .breakoffEnd s =
    .next (if s.inReset = false ∧ s.lm.sampled = true ∧ s.breakoffOver = true then s.boundary else s) := rfl
  rw [hexec, if_pos ⟨hreset, hsampled, hover⟩, State.boundary, if_pos hover]

/-- FAILED, below the limit of eight failures (R50, R54). -/
theorem attemptFailed_eq {s : State} {x : TransmitBuffer} (hx : s.tu.buffer = some x) (hfailures : s.tu.failures < 8) :
    s.attemptFailed =
      let told : State :=
        ({ s with tu := { waiting s.tu with lout := recessive, failures := s.tu.failures + 1 } } : State).tellOwner x.owner false
      if s.tu.failures = 7 then told.eighthFailure else told := by
  have hafter : s.tu.afterFailed = { waiting s.tu with lout := recessive, failures := s.tu.failures + 1 } := by
    have hmin : min Config.failureLimit (s.tu.failures + 1) = s.tu.failures + 1 := Nat.min_eq_right hfailures
    rw [TransmitUnit.afterFailed, hmin]
    rfl
  have hlimit : s.tu.failures + 1 = Config.failureLimit ↔ s.tu.failures = 7 := by simp [Config.failureLimit]
  unfold State.attemptFailed
  simp only [hx, State.tellBuffer, hafter, hlimit]

/-- Settles O25. -/
theorem breakoffEnd : Obligations.BreakoffEnd := by
  refine ⟨fun s x hreset hsampled hst hbits hx hfailures => ?_, fun s hwait => ⟨fun hst hheld => ?_, fun hst hexpired => ?_,
    fun hst hexpired => ?_, fun hmember hleaving => ?_⟩⟩
  · rw [exec_breakoffEnd hreset hsampled hst hbits, attemptFailed_eq (s := s.nextBit) hx hfailures]
    rfl
  · have hbecome := become_waiting hwait .silenced
    have hleft := leaveMember hheld .silenced .transmitFault (by simp) (.inr (by rw [hbecome]))
    have hkeeps := (s.become .silenced).teardown_keeps .transmitFault
    have hmu := teardown_mu (s.become .silenced) .transmitFault
    rw [eighthFailure_of_member hst]
    generalize (s.become .silenced).teardown .transmitFault = v at hleft hkeeps hmu ⊢
    rw [hbecome] at hkeeps hmu
    obtain ⟨htorn, hnothing, houtcomes, hreport, hcounter, -⟩ := hleft
    obtain ⟨-, -, -, -, -, htu, -⟩ := hkeeps
    refine ⟨?_, htorn, hnothing, ?_, ?_, htu, hcounter, houtcomes, ?_⟩
    · show v.mu.station = _
      rw [hmu]
    · show v.mu.rollDue = _
      rw [hmu]
    · show v.mu.rollOnLine = _
      rw [hmu]
      rfl
    · rw [State.raise_report, hreport]
  · unfold State.eighthFailure
    simp only [hst, hexpired, Bool.false_eq_true, if_false, become_waiting hwait]
    rfl
  · unfold State.eighthFailure
    simp only [hst, hexpired, if_true, leaveDone_eq hwait]
  · unfold State.eighthFailure
    split
    · next h => exact absurd h hmember
    · next h => exact absurd h hleaving
    · rfl

end Sys2Proof.Machine
end

section
/-!
PROOFS. The results of attempts at their owners (O27), the candidates of a start point and its choice (O28), and the timers (O46 to
O48).
-/
namespace Sys2Proof.Machine

open Sys2Proof Sys2Proof.Safety

/-! ### The first entry of a list that meets a condition -/

theorem find?_first {α : Type} {cond : α → Bool} {front back : List α} {e : α} (hfront : ∀ f ∈ front, cond f = false)
    (he : cond e = true) : (front ++ e :: back).find? cond = some e := by
  have hnone : front.find? cond = none := List.find?_eq_none.mpr fun f hf => by simp [hfront f hf]
  rw [List.find?_append, hnone, Option.none_or, List.find?_cons_of_pos he]

theorem eraseP_first {α : Type} {cond : α → Bool} {front back : List α} {e : α} (hfront : ∀ f ∈ front, cond f = false)
    (he : cond e = true) : (front ++ e :: back).eraseP cond = front ++ back := by
  rw [List.eraseP_append_right _ fun f hf => by simp [hfront f hf], List.eraseP_cons_of_pos he]

theorem find?_seq {front back : List WindowEntry} {e : WindowEntry} {q : Seq} (he : e.seq = q) (hfront : ∀ f ∈ front, f.seq ≠ q) :
    (front ++ e :: back).find? (fun e => decide (e.seq = q)) = some e :=
  find?_first (fun f hf => decide_eq_false (hfront f hf)) (decide_eq_true he)

theorem followerOf_first {front back : List WindowEntry} {e : WindowEntry} {q : Seq} (he : e.seq = q)
    (hfront : ∀ f ∈ front, f.seq ≠ q) : followerOf q (front ++ e :: back) = back.head?.map (·.seq) := by
  induction front with
  | nil => simp [followerOf, he]
  | cons f front ih =>
    rw [List.cons_append, followerOf, if_neg (hfront f List.mem_cons_self)]
    exact ih fun g hg => hfront g (List.mem_cons_of_mem _ hg)

/-! ### Results at their owners (O27) -/

section
variable {s : State}

/-- A window entry's result (R110, R111). -/
theorem windowResult_of_entry {p : StationId} {q : Seq} {t : TxSession} {e : WindowEntry} {front back : List WindowEntry} {c : Parcel}
    (ht : s.tx p = some t) (hw : t.window = front ++ e :: back) (he : e.seq = q) (hfront : ∀ f ∈ front, f.seq ≠ q)
    (hc : s.slot e.slot = .inFlight c) :
    s.windowResult p q true = (s.withSlot e.slot (.inFlight { c with sentOnce := true })).withTx p (some { t with
        resend := if t.resend = some q then back.head?.map (·.seq) else t.resend
        answerTimer := if t.answerTimer = none ∧ t.held = false then some s.cfg.answerWait else t.answerTimer }) ∧
    s.windowResult p q false = s.withTx p (some { t with resend := if t.resend = none then some q else t.resend }) := by
  have hfind : t.window.find? (fun e => decide (e.seq = q)) = some e := by rw [hw]; exact find?_seq he hfront
  have hfollower : followerOf q t.window = back.head?.map (·.seq) := by rw [hw]; exact followerOf_first he hfront
  have hmark : s.markSent e.slot = s.withSlot e.slot (.inFlight { c with sentOnce := true }) := by
    simp only [State.markSent, hc]
  simp only [State.windowResult, ht, hfind, hfollower, hmark, if_true, Bool.false_eq_true, if_false, and_self]

theorem openResult_of_session {p : StationId} {t : TxSession} (ht : s.tx p = some t) (hst : t.state = .opening)
    (hon : t.openOnLine = true) :
    s.openResult p true = s.withTx p (some { t with openOnLine := false, openDue := false, answerTimer := some s.cfg.answerWait }) ∧
    s.openResult p false = s.withTx p (some { t with openOnLine := false }) := by
  simp only [State.openResult, ht, hst, hon, and_self, if_true, Bool.false_eq_true, if_false]

theorem laneSent_of_lane {l : Lane} (hl : s.gu.lane = some l) :
    s.laneSent l.slot l.seq = s.withLane { l with sentOnce := true, frameDue := false, timer := some s.cfg.answerWait } := by
  simp only [State.laneSent, hl, and_self, if_true]

/-- The queue after the result of the answer that is on the line (R139, R140). -/
theorem queueAfterResult_of_entry {front back : List AnswerEntry} {e : AnswerEntry} (he : e.onLine = true)
    (hoff : ∀ f ∈ front ++ back, f.onLine = false) :
    queueAfterResult (front ++ e :: back) true = front ++ back ∧
    queueAfterResult (front ++ e :: back) false =
      if ∃ f ∈ back ++ front, f.dest = e.dest ∧ f.subject = e.subject then front ++ back
      else front ++ { e with onLine := false } :: back := by
  have hfront : ∀ f ∈ front, f.onLine = false := fun f hf => hoff f (List.mem_append_left _ hf)
  have hback : ∀ f ∈ back, f.onLine = false := fun f hf => hoff f (List.mem_append_right _ hf)
  have hany : (front ++ e :: back).any (·.waitsFor e.dest e.subject) = true ↔
      ∃ f ∈ back ++ front, f.dest = e.dest ∧ f.subject = e.subject := by
    rw [any_waitsFor_iff]
    constructor
    · rintro ⟨f, hf, hkey, hsubject, hwaits⟩
      refine ⟨f, ?_, hkey, hsubject⟩
      rcases List.mem_append.mp hf with hf | hf
      · exact List.mem_append_right _ hf
      · rcases List.mem_cons.mp hf with rfl | hf
        · simp [he] at hwaits
        · exact List.mem_append_left _ hf
    · rintro ⟨f, hf, hkey, hsubject⟩
      rcases List.mem_append.mp hf with hf | hf
      · exact ⟨f, List.mem_append_right _ (List.mem_cons_of_mem _ hf), hkey, hsubject, hback f hf⟩
      · exact ⟨f, List.mem_append_left _ hf, hkey, hsubject, hfront f hf⟩
  have herase := eraseP_first (back := back) hfront he
  refine ⟨by simpa [queueAfterResult] using herase, ?_⟩
  have hmap : ∀ l : List AnswerEntry, (∀ f ∈ l, f.onLine = false) →
      l.map (fun a => if a.onLine then { a with onLine := false } else a) = l := fun l hl =>
    List.map_congr_left (fun f hf => by simp [hl f hf]) |>.trans (List.map_id l)
  rw [queueAfterResult, if_neg Bool.false_ne_true]
  simp only [find?_first hfront he, hany, herase, List.map_append, List.map_cons, hmap front hfront, hmap back hback, he, if_true]

/-- A roll's result (R69, R79). -/
theorem rollResult_of_member (hst : s.mu.station = .member) (hon : s.mu.rollOnLine ≠ .off) (joined : Bool) :
    s.rollResult joined true = { s with
      mu := { s.mu with rollOnLine := .off, rollDue := false, joinedPending := if joined then false else s.mu.joinedPending } } ∧
    s.rollResult joined false = { s with mu := { s.mu with rollOnLine := .off } } := by
  have hjoined : (s.mu.joinedPending && !joined) = if joined then false else s.mu.joinedPending := by cases joined <;> simp
  simp only [State.rollResult, if_neg hon, hst, hjoined, if_true, Bool.false_eq_true, if_false, and_self]

theorem rollResult_of_leaving (hst : s.mu.station = .leaving) (hon : s.mu.rollOnLine ≠ .off) (hwait : s.tu.state = .wait)
    (joined isSent : Bool) :
    s.rollResult joined isSent =
      if s.mu.leaveExpired = true ∨ (s.mu.rollOnLine = .part ∧ isSent = true) then
        { s with
          mu := { s.mu with station := .detached, leaveTimer := none, leaveExpired := false, rollDue := false, rollOnLine := .off }
          report := reportWithNotice s.report .left none }
      else { s with mu := { s.mu with rollOnLine := .off } } := by
  unfold State.rollResult
  rw [if_neg hon]
  dsimp only
  rw [hst]
  exact if_congr Iff.rfl (leaveDone_eq hwait) rfl

end

/-- Settles O27: each owner's rule where the item stands, and its own test where the item is gone. -/
theorem resultAtOwner : Obligations.ResultAtOwner := by
  refine ⟨⟨fun s p q t e front back c ht hw he hfront hc => windowResult_of_entry ht hw he hfront hc,
    fun s p t ht hst hon => openResult_of_session ht hst hon, fun s l hl => ⟨laneSent_of_lane hl, rfl⟩,
    fun s front back e hanswers he hoff => ?_, fun s joined hon => ⟨fun hst => rollResult_of_member hst hon joined,
      fun hst hwait => ?_⟩⟩, fun s b => ⟨fun p q hgone => ?_, fun p hgone => ?_, fun k q hgone => ?_, fun hgone => ?_,
      fun hoff joined => if_pos hoff⟩⟩
  · obtain ⟨hsent, hlost⟩ := queueAfterResult_of_entry he hoff
    refine ⟨?_, ?_⟩
    · show { s with answers := queueAfterResult s.answers true } = _
      rw [hanswers, hsent]
    · show { s with answers := queueAfterResult s.answers false } = _
      rw [hanswers, hlost]
  · have hresult := fun b => rollResult_of_leaving hst hon hwait joined b
    refine ⟨fun b hexpired => (hresult b).trans (if_pos (.inl hexpired)),
      fun hexpired hpart => (hresult true).trans (if_pos (.inr ⟨hpart, rfl⟩)), fun b hexpired hno => (hresult b).trans (if_neg ?_)⟩
    rintro (h | ⟨hpart, rfl⟩)
    · simp [hexpired] at h
    · rcases hno with h | h
      · cases h
      · simp [hpart] at h
  · show s.windowResult p q b = s
    unfold State.windowResult
    cases ht : s.tx p with
    | none => rfl
    | some t =>
      have hnone : t.window.find? (fun e => decide (e.seq = q)) = none :=
        List.find?_eq_none.mpr fun e he => by simpa using hgone t ht e he
      simp only [hnone]
  · show s.openResult p b = s
    unfold State.openResult
    cases ht : s.tx p with
    | none => rfl
    | some t =>
      refine if_neg ?_
      rintro ⟨hst, hon⟩
      rcases hgone t ht with h | h
      · simp [hst] at h
      · simp [hon] at h
  · cases b with
    | false => rfl
    | true =>
      show s.laneSent k q = s
      unfold State.laneSent
      cases hl : s.gu.lane with
      | none => rfl
      | some l =>
        refine if_neg ?_
        rintro ⟨hk, hq⟩
        exact (hgone l hl).elim (· hk) (· hq)
  · show { s with answers := queueAfterResult s.answers b } = s
    have hqueue : queueAfterResult s.answers b = s.answers := by
      have hnone : s.answers.find? (·.onLine) = none := List.find?_eq_none.mpr fun e he => by simp [hgone e he]
      cases b with
      | true => exact List.eraseP_of_forall_not fun e he => by simp [hgone e he]
      | false => simp only [queueAfterResult, hnone, Bool.false_eq_true, if_false]
    rw [hqueue]

/-! ### The candidate of a start point (O28) -/

theorem finRange_split {n : Nat} (i : Fin n) : ∃ front back, List.finRange n = front ++ i :: back ∧ ∀ j ∈ front, j < i := by
  obtain ⟨front, back, h⟩ := List.append_of_mem (List.mem_finRange i)
  refine ⟨front, back, h, fun j hj => ?_⟩
  have hsorted := List.pairwise_lt_finRange n
  rw [h] at hsorted
  exact (List.pairwise_append.mp hsorted).2.2 j hj i List.mem_cons_self

theorem find?_lowest {n : Nat} {cond : Fin n → Bool} {i : Fin n} (hi : cond i = true) (hlow : ∀ j, j < i → cond j = false) :
    (List.finRange n).find? cond = some i := by
  obtain ⟨front, back, h, hfront⟩ := finRange_split i
  rw [h]
  exact find?_first (fun j hj => hlow j (hfront j hj)) hi

section
variable {s : State}

theorem answerOffer_of_oldest {front back : List AnswerEntry} {e : AnswerEntry} (hanswers : s.answers = front ++ e :: back)
    (he : e.onLine = false) (hfront : ∀ f ∈ front, f.onLine = true) :
    s.answerOffer = some ⟨(Msg.answer s.mu.number e.dest e.subject e.code e.number).toFrame, .answer, none, false⟩ := by
  have hfind : s.answers.find? (fun e => !e.onLine) = some e := by
    rw [hanswers]
    exact find?_first (fun f hf => by simp [hfront f hf]) (by simp [he])
  rw [State.answerOffer, hfind, Option.map_some]

theorem answerOffer_of_onLine (h : ∀ e ∈ s.answers, e.onLine = true) : s.answerOffer = none := by
  have hfind : s.answers.find? (fun e => !e.onLine) = none := List.find?_eq_none.mpr fun e he => by simp [h e he]
  rw [State.answerOffer, hfind, Option.map_none]

theorem openOffer_of_lowest {p : StationId} (hp : s.openIsDue p = true) (hlow : ∀ q, q < p → s.openIsDue q = false) :
    s.openOffer = some ⟨(Msg.openReq s.mu.number p 0).toFrame, .openReq p, none, false⟩ := by
  have hfind : allStations.find? s.openIsDue = some p := find?_lowest hp hlow
  rw [State.openOffer, hfind, Option.map_some]

theorem openOffer_of_none (h : ∀ p, s.openIsDue p = false) : s.openOffer = none := by
  have hfind : allStations.find? s.openIsDue = none := List.find?_eq_none.mpr fun p _ => by simp [h p]
  rw [State.openOffer, hfind, Option.map_none]

theorem openIsDue_iff {p : StationId} :
    s.openIsDue p = true ↔ ∃ t, (s.peer p).tx = some t ∧ t.state = .opening ∧ t.openDue = true := by
  unfold State.openIsDue
  rw [show s.tx p = (s.peer p).tx from rfl]
  cases (s.peer p).tx <;> simp

/-- The data candidates from the pointer on, in that order. -/
theorem offers_eq : (positionsFrom s.tu.pointer).filterMap s.offerAt =
    (List.finRange 33).filterMap fun d => s.offerAt (s.tu.pointer + d) := by
  rw [positionsFrom, List.filterMap_map]
  rfl

theorem dataChoice_of_none (h : ∀ i, s.offerAt i = none) : s.dataChoice = none := by
  have hoffers : (positionsFrom s.tu.pointer).filterMap s.offerAt = [] := List.filterMap_eq_nil_iff.mpr fun i _ => h i
  rw [State.dataChoice, hoffers]
  rfl

/-- Of the best class, the first from the pointer on (R44). -/
theorem dataChoice_of_first {d : Position} {o : Offer} (ho : s.offerAt (s.tu.pointer + d) = some o)
    (hfirst : ∀ d', d' < d → ∀ o', s.offerAt (s.tu.pointer + d') = some o' → o'.frame.cls ≠ o.frame.cls)
    (hbest : o.frame.cls = 2 ∨ (o.frame.cls = 3 ∧ ∀ i o', s.offerAt i = some o' → o'.frame.cls = 3)) : s.dataChoice = some o := by
  obtain ⟨front, back, hsplit, hfront⟩ := finRange_split d
  have hoffers : (positionsFrom s.tu.pointer).filterMap s.offerAt =
      front.filterMap (fun d => s.offerAt (s.tu.pointer + d)) ++ o :: back.filterMap (fun d => s.offerAt (s.tu.pointer + d)) := by
    rw [offers_eq, hsplit, List.filterMap_append,
      List.filterMap_cons_some (f := fun d => s.offerAt (s.tu.pointer + d)) ho]
  have hearlier : ∀ o' ∈ front.filterMap (fun d => s.offerAt (s.tu.pointer + d)), o'.frame.cls ≠ o.frame.cls := fun o' ho' => by
    obtain ⟨d', hd', hoffer⟩ := List.mem_filterMap.mp ho'
    exact hfirst d' (hfront d' hd') o' hoffer
  rw [State.dataChoice]
  rcases hbest with hcls | ⟨hcls, hall⟩
  · have hfind := find?_first (cond := fun o : Offer => decide (o.frame.cls = 2))
      (back := back.filterMap (fun d => s.offerAt (s.tu.pointer + d)))
      (fun o' ho' => decide_eq_false fun h2 => hearlier o' ho' (h2.trans hcls.symm)) (decide_eq_true hcls)
    simp only [hoffers, hfind]
  · have hclass : ∀ o' ∈ (positionsFrom s.tu.pointer).filterMap s.offerAt, o'.frame.cls = 3 := fun o' ho' => by
      obtain ⟨i, -, hi⟩ := List.mem_filterMap.mp ho'
      exact hall i o' hi
    have hfind : ((positionsFrom s.tu.pointer).filterMap s.offerAt).find? (fun o => decide (o.frame.cls = 2)) = none :=
      List.find?_eq_none.mpr fun o' ho' => by simp [hclass o' ho']
    have hnil : front.filterMap (fun d => s.offerAt (s.tu.pointer + d)) = [] :=
      List.eq_nil_iff_forall_not_mem.mpr fun o' ho' => hearlier o' ho' ((hclass o' (by
        rw [hoffers]
        exact List.mem_append_left _ ho')).trans hcls.symm)
    rw [hfind]
    simp only [hoffers, hnil, List.nil_append, List.head?_cons]

theorem choice_of_leaving (h : s.mu.station = .leaving) : s.choice = s.rollOffer := by simp only [State.choice, h]

/-- The order of the holders in MEMBER (R42). -/
theorem choice_of_member (h : s.mu.station = .member) : s.choice =
    ((s.answerOffer.or s.rollOffer).or s.openOffer).or (if s.tu.deferred then none else s.dataChoice) := by
  simp only [State.choice, h]
  cases s.answerOffer <;> cases s.rollOffer <;> cases s.openOffer <;> rfl

theorem rollOffer_eq : s.rollOffer = if s.mu.rollDue = true then
    some ⟨(Msg.roll s.mu.number 0 s.cfg.groups (rollFlags s.mu.joinedPending (decide (s.mu.station = .leaving)))).toFrame,
      .roll s.mu.joinedPending, none, false⟩ else none := rfl

theorem offerAt_of_station {i : Position} {p : StationId} (h : i.val = p.val) : s.offerAt i = s.sessionOffer p := by
  have hlt : i.val < 32 := by omega
  have hp : (⟨i.val, hlt⟩ : StationId) = p := Fin.ext h
  rw [State.offerAt, dif_pos hlt, hp]

theorem offerAt_of_lane {i : Position} (h : i.val = 32) : s.offerAt i = s.laneOffer := dif_neg (by omega)

theorem dataOffer_of_slot {p : StationId} {k : SlotId} {c : Parcel} {i : Position} (hi : i.val = p.val)
    (hc : (s.slot k).parcel = some c) (q : Seq) (entering : Bool) : s.dataOffer p k q entering =
      some ⟨(Msg.data c.urgent s.mu.number p q c.payload).toFrame, .window p q, some i, entering⟩ := by
  have hposition : (⟨p.val, by omega⟩ : Position) = i := Fin.ext hi.symm
  rw [State.dataOffer, hc, Option.map_some, hposition]

theorem sessionOffer_of_silent {p : StationId} (h : ∀ t, (s.peer p).tx = some t → t.state = .opening ∨ t.held = true) :
    s.sessionOffer p = none := by
  unfold State.sessionOffer
  rw [show s.tx p = (s.peer p).tx from rfl]
  cases ht : (s.peer p).tx with
  | none => rfl
  | some t => exact if_pos (h t ht)

/-- What a session in OPEN that is not held offers: the entry at its resend point (R109). -/
theorem sessionOffer_of_resend {p : StationId} {t : TxSession} {q : Seq} (ht : (s.peer p).tx = some t) (hst : t.state = .opened)
    (hheld : t.held = false) (hq : t.resend = some q) :
    s.sessionOffer p = (t.window.find? fun e => decide (e.seq = q)).bind fun e => s.dataOffer p e.slot q false := by
  have hno : ¬ (t.state = .opening ∨ t.held = true) := by simp [hst, hheld]
  rw [State.sessionOffer, show s.tx p = (s.peer p).tx from rfl, ht]
  simp only [if_neg hno, hq]
  cases t.window.find? (fun e => decide (e.seq = q)) <;> simp

/-- With no resend point, it offers the head of its waiting list while the window has room (R109). -/
theorem sessionOffer_of_noResend {p : StationId} {t : TxSession} (ht : (s.peer p).tx = some t) (hst : t.state = .opened)
    (hheld : t.held = false) (hq : t.resend = none) : s.sessionOffer p =
      if t.window.length < s.cfg.window then t.waiting.head?.bind fun w => s.dataOffer p w.slot t.nextSeq true else none := by
  have hno : ¬ (t.state = .opening ∨ t.held = true) := by simp [hst, hheld]
  rw [State.sessionOffer, show s.tx p = (s.peer p).tx from rfl, ht]
  simp only [if_neg hno, hq]
  cases t.waiting <;> simp

theorem laneOffer_of_silent (h : ∀ l, s.gu.lane = some l → l.frameDue = false) : s.laneOffer = none := by
  unfold State.laneOffer
  cases hl : s.gu.lane with
  | none => rfl
  | some l => exact if_neg (by simp [h l hl])

theorem laneOffer_of_due {l : Lane} {c : Parcel} (hl : s.gu.lane = some l) (hdue : l.frameDue = true)
    (hc : s.slot l.slot = .inFlight c) : s.laneOffer =
      some ⟨(Msg.group c.urgent s.mu.number l.group l.seq c.payload).toFrame, .lane l.slot l.seq, some 32, false⟩ := by
  simp only [State.laneOffer, hl, hdue, if_true, hc, Slot.parcel, Option.map_some]

end

/-- Settles O28: the holders' offers one by one, and the choice among them by class, then roll, lowest station or pointer. -/
theorem candidateChoice : Obligations.CandidateChoice := by
  refine ⟨⟨fun s hm hl => ?_, fun s hst => ?_, fun s hst => ⟨fun front back e hanswers he hfront => ?_, fun hanswers =>
    ⟨fun hdue => ?_, fun hdue => ⟨fun p hp hlow => ?_, fun hopen => ⟨fun hdef => ?_, fun hdef => ⟨fun hnone => ?_,
      fun d o ho hfirst hbest => ?_⟩⟩⟩⟩⟩⟩,
    fun s p => openIsDue_iff, fun s p i hi => ⟨fun h => ?_, fun t ht hst hheld => ⟨fun q front back e c hq hw he hfront hc => ?_,
      fun w rest c hq hroom hwait hc => ?_, fun hq hfull => ?_⟩⟩,
    fun s i hi => ⟨fun h => ?_, fun l c hl hdue hc => ?_⟩, fun _ _ _ _ _ _ => ⟨rfl, rfl⟩, fun _ _ subject code _ => ⟨rfl, rfl⟩,
    fun _ _ _ _ => rfl, by decide, by decide, by decide⟩
  · unfold State.choice
    cases hst : s.mu.station with
    | member => exact absurd hst hm
    | leaving => exact absurd hst hl
    | _ => rfl
  · rw [choice_of_leaving hst, rollOffer_eq, hst]
    rfl
  · rw [choice_of_member hst, answerOffer_of_oldest hanswers he hfront]
    rfl
  · rw [choice_of_member hst, answerOffer_of_onLine hanswers, rollOffer_eq, if_pos hdue, hst]
    rfl
  · rw [choice_of_member hst, answerOffer_of_onLine hanswers, rollOffer_eq, if_neg (by simp [hdue]), openOffer_of_lowest hp hlow]
    rfl
  · rw [choice_of_member hst, answerOffer_of_onLine hanswers, rollOffer_eq, if_neg (by simp [hdue]), openOffer_of_none hopen, hdef]
    rfl
  · rw [choice_of_member hst, answerOffer_of_onLine hanswers, rollOffer_eq, if_neg (by simp [hdue]), openOffer_of_none hopen, hdef,
      dataChoice_of_none hnone]
    rfl
  · rw [choice_of_member hst, answerOffer_of_onLine hanswers, rollOffer_eq, if_neg (by simp [hdue]), openOffer_of_none hopen, hdef,
      dataChoice_of_first ho hfirst hbest]
    rfl
  · rw [offerAt_of_station hi, sessionOffer_of_silent h]
  · rw [offerAt_of_station hi, sessionOffer_of_resend ht hst hheld hq, hw]
    simp only [find?_seq he hfront, Option.bind_some, dataOffer_of_slot hi (show (s.slot e.slot).parcel = some c by rw [hc]; rfl)]
  · rw [offerAt_of_station hi, sessionOffer_of_noResend ht hst hheld hq]
    simp only [if_pos hroom, hwait, List.head?_cons, Option.bind_some,
      dataOffer_of_slot hi (show (s.slot w.slot).parcel = some c by rw [hc]; rfl)]
  · rw [offerAt_of_station hi, sessionOffer_of_noResend ht hst hheld hq]
    rcases hfull with hfull | hwait
    · simp only [if_neg (Nat.not_lt.mpr hfull)]
    · simp only [hwait, List.head?_nil, Option.bind_none, ite_self]
  · rw [offerAt_of_lane hi, laneOffer_of_silent h]
  · have h32 : i = 32 := Fin.ext hi
    rw [offerAt_of_lane hi, laneOffer_of_due hl hdue hc, h32]

/-! ### The timers of the station, the sessions and the lane (O46, O48) -/

section
variable {s : State}

theorem joinDone_eq (s : State) : s.joinDone = { s with
    mu := { s.mu with station := .member, joinTimer := none, rollDue := true, joinedPending := true,
                      rollTimer := some (10 * s.cfg.rollInterval) }
    report := reportWithNotice s.report .joinDone none } := by
  rw [State.joinDone, become_driving s rfl]
  rfl

/-- The end of a leave, with whatever attempt was in progress (R79, R80). -/
theorem leaveDone_of_any (s : State) : s.leaveDone = { s with
    mu := { s.mu with station := .detached, leaveTimer := none, leaveExpired := false, rollDue := false, rollOnLine := .off }
    tu := if s.tu.state = .wait then s.tu else { waiting s.tu with lout := recessive }
    report := reportWithNotice s.report .left none } := by
  rw [State.leaveDone, become_idle s rfl]
  rfl

/-- The retry step, with the session in `s` already replaced by `x` (R108). -/
theorem retryStep_below {p : StationId} {x : TxSession} (h : x.retry ≠ s.cfg.retryLimit) (cause : Cause) (go : TxSession → TxSession) :
    s.retryStep p x cause go = s.withTx p (some (go { x with retry := x.retry + 1 })) := if_neg h

theorem retryStep_at {p : StationId} {x : TxSession} (h : x.retry = s.cfg.retryLimit) (cause : Cause) (go : TxSession → TxSession) :
    s.retryStep p x cause go = (s.withTx p (some x)).terminalBreak p cause := if_pos h

theorem exec_openAnswerTimer {p : StationId} {x : TxSession} (hx : s.tx p = some x) : exec (.openAnswerTimerExpiry p) s =
    .next (if x.state = .opening ∧ x.answerTimer.isSome = true then s.openTimerExpiry p x else s) := by
  simp only [exec, execOpenAnswerTimerExpiry, hx]

theorem exec_answerTimer {p : StationId} {x : TxSession} (hx : s.tx p = some x) : exec (.answerTimerExpiry p) s =
    .next (if x.state = .opened ∧ x.answerTimer.isSome = true then s.dataTimerExpiry p x else s) := by
  simp only [exec, execAnswerTimerExpiry, hx]

theorem exec_holdTimer {p : StationId} {x : TxSession} (hx : s.tx p = some x) : exec (.holdTimerExpiry p) s =
    .next (if x.holdTimer.isSome = true then s.withTx p (some x.holdEnded) else s) := by
  simp only [exec, execHoldTimerExpiry, hx]

theorem exec_laneAnswerTimer {l : Lane} (hl : s.gu.lane = some l) :
    exec .laneAnswerTimerExpiry s = .next (if l.timer.isSome = true then s.laneRetry l else s) := by
  simp only [exec, execLaneAnswerTimerExpiry, hl]

/-- The end of the lane's parcel (R151, R153). -/
theorem endLane_of_inFlight {l : Lane} {c : Parcel} (hc : s.slot l.slot = .inFlight c) (code : OutcomeCode) (cause : Cause) :
    s.endLane l code cause = { s with
      slots := s.slots.set l.slot.val (.done c ⟨code, cause, some (l.answered, l.pending ||| l.lost)⟩)
      report := s.report ++ [.outcome l.slot]
      gu := { s.gu with lane := none } } := by
  rw [State.endLane, State.setOutcome_of_outstanding (.inr hc)]
  rfl

end

/-- Settles O46. -/
theorem joinAndLeaveTimers : Obligations.JoinAndLeaveTimers := by
  refine fun s => ⟨fun hst htimer => ?_, fun hst htimer => ⟨fun hoff => ?_, fun hon => ?_⟩, fun h => ?_, fun h => ?_, fun h => ?_⟩
  · have hrun : s.mu.station = .joining ∧ s.mu.joinTimer.isSome = true := ⟨hst, Option.isSome_iff_ne_none.mpr htimer⟩
    exact congrArg Host.Outcome.next ((if_pos hrun).trans (joinDone_eq s))
  · have hrun : s.mu.station = .leaving ∧ s.mu.leaveTimer.isSome = true := ⟨hst, Option.isSome_iff_ne_none.mpr htimer⟩
    exact congrArg Host.Outcome.next ((if_pos hrun).trans ((if_pos hoff).trans (leaveDone_of_any s)))
  · have hrun : s.mu.station = .leaving ∧ s.mu.leaveTimer.isSome = true := ⟨hst, Option.isSome_iff_ne_none.mpr htimer⟩
    exact congrArg Host.Outcome.next ((if_pos hrun).trans (if_neg hon))
  · exact congrArg Host.Outcome.next (if_neg (by simp [h]))
  · exact congrArg Host.Outcome.next (if_neg (by simp [h]))
  · exact congrArg Host.Outcome.next (if_neg (by simp [h]))

/-- Settles O48: below the limit a retry step edits the session or the lane, at the limit it breaks it. -/
theorem sessionAndLaneTimers : Obligations.SessionAndLaneTimers := by
  unfold Obligations.SessionAndLaneTimers
  refine ⟨fun s p => ⟨fun x hx => ?_, fun hnone => ?_⟩, fun s l hl => ⟨fun h => ?_, fun h hretry => ?_, fun h hretry c hc => ?_⟩⟩
  · have hopen := exec_openAnswerTimer (s := s) (p := p) hx
    have hdata := exec_answerTimer (s := s) (p := p) hx
    have hhold := exec_holdTimer (s := s) (p := p) hx
    refine ⟨fun htimer hst => ⟨fun hpause => ?_, fun hpause hretry => ?_, fun hpause hretry => ?_⟩,
      fun htimer hst => ⟨fun hretry => ?_, fun hretry => ?_⟩, fun htimer => ?_, fun htimer => ⟨?_, ?_⟩, fun htimer => ?_⟩
    · rw [hopen, if_pos ⟨hst, Option.isSome_iff_ne_none.mpr htimer⟩, State.openTimerExpiry, if_pos hpause]
      rfl
    · rw [hopen, if_pos ⟨hst, Option.isSome_iff_ne_none.mpr htimer⟩, State.openTimerExpiry, if_neg (by simp [hpause])]
      exact congrArg Host.Outcome.next (retryStep_below (x := { x with answerTimer := none, openDue := true }) hretry _ _)
    · rw [hopen, if_pos ⟨hst, Option.isSome_iff_ne_none.mpr htimer⟩, State.openTimerExpiry, if_neg (by simp [hpause])]
      exact congrArg Host.Outcome.next (retryStep_at (x := { x with answerTimer := none, openDue := true }) hretry _ _)
    · rw [hdata, if_pos ⟨hst, Option.isSome_iff_ne_none.mpr htimer⟩, State.dataTimerExpiry]
      exact congrArg Host.Outcome.next (retryStep_below (x := { x with answerTimer := none }) hretry _ _)
    · rw [hdata, if_pos ⟨hst, Option.isSome_iff_ne_none.mpr htimer⟩, State.dataTimerExpiry]
      exact congrArg Host.Outcome.next (retryStep_at (x := { x with answerTimer := none }) hretry _ _)
    · rw [hhold, if_pos (Option.isSome_iff_ne_none.mpr htimer)]
      rfl
    · rw [hopen, if_neg (by simp [htimer])]
    · rw [hdata, if_neg (by simp [htimer])]
    · rw [hhold, if_neg (by simp [htimer])]
  · have htx : s.tx p = none := hnone
    simp only [exec, execOpenAnswerTimerExpiry, execAnswerTimerExpiry, execHoldTimerExpiry, htx, and_self]
  · rw [exec_laneAnswerTimer hl, if_neg (by simp [h])]
  · rw [exec_laneAnswerTimer hl, if_pos (Option.isSome_iff_ne_none.mpr h), State.laneRetry, if_neg hretry]
    rfl
  · rw [exec_laneAnswerTimer hl, if_pos (Option.isSome_iff_ne_none.mpr h), State.laneRetry, if_pos hretry, endLane_of_inFlight hc]

end Sys2Proof.Machine
end

section
/-!
PROOFS. Frames that close at this station (O30, O32, O35 to O38, O40 to O44): what every frame of another station brings in MEMBER,
and then the row of its kind.
-/
namespace Sys2Proof.Machine

open Sys2Proof Sys2Proof.Safety

/-! ### Liveness, deferral and destination (R36, R37) -/

section
variable {s : State} {p : StationId}

theorem atClosingMark_eq (s : State) : s.atClosingMark = marked s := rfl

theorem liveness_marked (s : State) (p : StationId) : (marked s).liveness p = heard s p false := by
  unfold State.liveness State.isPresent
  by_cases hp : (s.peer p).presence = .present
  · rw [if_pos (decide_eq_true (p := ((marked s).peer p).presence = .present) hp), heard, if_pos hp]
    rfl
  · rw [if_neg (show ¬ decide (((marked s).peer p).presence = .present) = true from by rw [decide_eq_true_eq]; exact hp), heard,
      if_neg hp]
    rfl

/-- A valid frame of another station in MEMBER reaches the destination filter after the liveness and the deferral step. -/
theorem frameCloses_of_hears {m : Msg} (h : hears s m.src) (hvalid : m.valid = true) :
    s.frameCloses m = (heard s m.src m.isDataClass).filterDest m := by
  obtain ⟨hreset, hst, hsrc⟩ := h
  rw [State.frameCloses, if_neg (by simp [hreset]), if_pos hvalid, atClosingMark_eq, State.useFrame,
    if_neg (show m.src ≠ (marked s).mu.number from hsrc)]
  simp only [show (marked s).mu.station = .member from hst, State.dispatchMember, liveness_marked]
  cases hdata : m.isDataClass <;> rw [State.clearDeferral, hdata] <;> rfl

theorem exec_row_of_hears {m : Msg} (h : hears s m.src) (hvalid : m.valid = true) :
    exec (rowOf m) s = .next ((heard s m.src m.isDataClass).filterDest m) := by
  rw [exec_rowOf, frameCloses_of_hears h hvalid]

theorem peers_heard_of_present (h : (s.peer p).presence = .present) (isData : Bool) :
    (heard s p isData).peers = s.peers.set p.val { s.peer p with silence := 0 } := if_pos h

theorem peer_heard (isData : Bool) (q : StationId) : (heard s p isData).peer q =
    if q = p ∧ (s.peer p).presence = .present then { s.peer p with silence := 0 } else s.peer q := by
  by_cases hp : (s.peer p).presence = .present
  · rw [State.peer_congr (s := s.withPeer p { s.peer p with silence := 0 }) (peers_heard_of_present hp isData), State.peer_withPeer]
    simp only [hp, and_true]
  · rw [if_neg fun h => hp h.2, State.peer_congr (s := s) (if_neg hp)]

theorem peer_heard_of_present (h : (s.peer p).presence = .present) (isData : Bool) :
    (heard s p isData).peer p = { s.peer p with silence := 0 } := by
  rw [peer_heard, if_pos ⟨rfl, h⟩]

theorem rx_heard (isData : Bool) : ((heard s p isData).peer p).rx = (s.peer p).rx := by
  rw [peer_heard]
  split <;> rfl

theorem tx_heard (isData : Bool) : ((heard s p isData).peer p).tx = (s.peer p).tx := by
  rw [peer_heard]
  split <;> rfl

theorem presence_heard (isData : Bool) : ((heard s p isData).peer p).presence = (s.peer p).presence := by
  rw [peer_heard]
  split <;> rfl

theorem lastGroup_heard (isData : Bool) : ((heard s p isData).peer p).lastGroup = (s.peer p).lastGroup := by
  rw [peer_heard]
  split <;> rfl

/-- An entry written over the one that the liveness step has renewed. -/
theorem withPeer_heard (h : (s.peer p).presence = .present) (isData : Bool) (e : PeerEntry) :
    (heard s p isData).withPeer p e = { heard s p isData with peers := s.peers.set p.val e } := by
  rw [State.withPeer, peers_heard_of_present h, Vector.set_set]

theorem withPresence_heard (h : (s.peer p).presence = .present) (pr : Presence) (groups : GroupSet) (n : Nat) :
    (heard s p false).withPresence p pr groups n =
      { marked s with peers := s.peers.set p.val { s.peer p with presence := pr, groups := groups, silence := n } } := by
  rw [State.withPresence, peer_heard_of_present h, withPeer_heard h]
  rfl

theorem heard_of_notPresent (h : (s.peer p).presence ≠ .present) : heard s p false = marked s := by
  rw [heard, if_neg h]
  rfl

end

/-! ### Frames that reach no block (O30) -/

/-- Settles O30. -/
theorem framesWithoutUse : Obligations.FramesWithoutUse := by
  refine ⟨fun s m hreset _ => ⟨fun hmember hjoining => ?_, fun hst hsrc hroll => ?_⟩,
    fun s src dst q urgent payload subject code g hhears hsrc hown hlen => ?_⟩
  · rw [exec_rowOf, State.frameCloses, if_neg (by simp [hreset]), atClosingMark_eq]
    congr 1
    split
    · rw [State.useFrame]
      have hclash : (marked s).onClash = marked s := by
        unfold State.onClash
        cases hst : (marked s).mu.station with
        | member => exact absurd hst hmember
        | joining => exact absurd hst hjoining
        | _ => rfl
      rw [hclash]
      cases hst : (marked s).mu.station with
      | member => exact absurd hst hmember
      | joining => exact absurd hst hjoining
      | _ => exact ite_self _
    · rfl
  · rw [exec_rowOf, State.frameCloses, if_neg (by simp [hreset]), atClosingMark_eq, State.useFrame,
      if_neg (show m.src ≠ (marked s).mu.number from hsrc)]
    simp only [show (marked s).mu.station = .joining from hst]
    cases m with
    | roll src q groups flags => exact absurd rfl (hroll src q groups flags)
    | _ => simp only [State.dispatchJoining, ite_self]
  · have hne : (dst != src) = true := bne_iff_ne.mpr hsrc
    have hlength : decide (payload.length ≤ Config.maxPayload) = true := decide_eq_true hlen
    refine ⟨?_, ?_, ?_, fun hgroup => ?_⟩
    · refine (exec_row_of_hears (m := .data urgent src dst q payload) hhears ?_).trans (congrArg _ (if_neg hown))
      rw [Msg.valid, hne, hlength]
      rfl
    · exact (exec_row_of_hears (m := .openReq src dst q) hhears hne).trans (congrArg _ (if_neg hown))
    · refine (exec_row_of_hears (m := .answer src dst subject code q) hhears hne).trans (congrArg _ ?_)
      cases subject with
      | data => exact if_neg hown
      | group => exact if_neg hown
      | openReq => exact if_neg hown
    · exact (exec_row_of_hears (m := .group urgent src g q payload) hhears hlength).trans
        (congrArg _ (if_neg (show ¬ hasGroup s.cfg.groups g = true from by simp [hgroup])))

/-! ### Frames to this station -/

section
variable {s : State} {p : StationId}

theorem exec_roll (h : hears s p) {flags : Byte} (hflags : (joinedFlag flags && partingFlag flags) = false) (q : Seq)
    (groups : GroupSet) : exec (.roll p q groups flags) s = .next ((heard s p false).rollInMember p groups flags) :=
  exec_row_of_hears (m := .roll p q groups flags) h (by rw [Msg.valid, hflags]; rfl)

theorem exec_openFrame (h : hears s p) (q : Seq) :
    exec (.openFrame p s.mu.number q) s = .next ((heard s p false).receiveOpen p) :=
  (exec_row_of_hears (m := .openReq p s.mu.number q) h (bne_iff_ne.mpr h.2.2.symm)).trans (congrArg _ (if_pos rfl))

theorem exec_data (h : hears s p) {payload : List Byte} (hlen : payload.length ≤ 64) (urgent : Bool) (q : Seq) :
    exec (.data urgent p s.mu.number q payload) s = .next ((heard s p true).receiveData p q payload) := by
  refine (exec_row_of_hears (m := .data urgent p s.mu.number q payload) h ?_).trans (congrArg _ (if_pos rfl))
  rw [Msg.valid, bne_iff_ne.mpr h.2.2.symm, decide_eq_true (show payload.length ≤ Config.maxPayload from hlen)]
  rfl

theorem exec_group (h : hears s p) {payload : List Byte} (hlen : payload.length ≤ 64) {g : GroupId}
    (hgroup : hasGroup s.cfg.groups g = true) (urgent : Bool) (q : Seq) :
    exec (.group urgent p g q payload) s = .next ((heard s p true).receiveGroup p g q payload) :=
  (exec_row_of_hears (m := .group urgent p g q payload) h (decide_eq_true hlen)).trans (congrArg _ (if_pos hgroup))

theorem exec_answerData (h : hears s p) (code : AnswerCode) (n : Seq) :
    exec (.answerData p s.mu.number code n) s = .next ((heard s p false).dataAnswer p code n) :=
  (exec_row_of_hears (m := .answer p s.mu.number .data code n) h (bne_iff_ne.mpr h.2.2.symm)).trans (congrArg _ (if_pos rfl))

theorem exec_answerOpen (h : hears s p) (code : AnswerCode) (n : Seq) :
    exec (.answerOpen p s.mu.number code n) s = .next ((heard s p false).openAnswer p code n) :=
  (exec_row_of_hears (m := .answer p s.mu.number .openReq code n) h (bne_iff_ne.mpr h.2.2.symm)).trans (congrArg _ (if_pos rfl))

theorem exec_answerGroup (h : hears s p) (code : AnswerCode) (n : Seq) :
    exec (.answerGroup p s.mu.number code n) s = .next ((heard s p false).groupAnswer p code n) :=
  (exec_row_of_hears (m := .answer p s.mu.number .group code n) h (bne_iff_ne.mpr h.2.2.symm)).trans (congrArg _ (if_pos rfl))

end

/-! ### ROLL that ends nothing (O32) -/

/-- Settles O32. -/
theorem rollTaken : Obligations.RollTaken := by
  refine ⟨fun s p q groups flags hreset hst hsrc hflags hself => ?_, fun s p q groups flags hhears hflags => ?_⟩
  · have hexec : exec (.roll p q groups flags) s = .next ((heard s p false).rollInJoining p groups flags) := by
      have hrow : exec (.roll p q groups flags) s = .next (s.frameCloses (.roll p q groups flags)) := rfl
      have hvalid : (Msg.roll p q groups flags).valid = true := by rw [Msg.valid, hflags]; rfl
      rw [hrow, State.frameCloses, if_neg (by simp [hreset]), if_pos hvalid, atClosingMark_eq, State.useFrame,
        if_neg (show (Msg.roll p q groups flags).src ≠ (marked s).mu.number from hsrc)]
      simp only [show (marked s).mu.station = .joining from hst, State.dispatchJoining, liveness_marked]
    rw [hexec, State.rollInJoining, presence_heard]
    cases hp : (s.peer p).presence with
    | self => exact absurd hp hself
    | present =>
      refine ⟨fun hparting => ?_, fun hparting _ => ?_, ?_⟩
      · rw [hparting, ← withPresence_heard hp]
        rfl
      · rw [hparting, ← withPresence_heard hp]
      · rintro - ⟨⟩
    | absent =>
      have hne : (s.peer p).presence ≠ .present := by simp [hp]
      refine ⟨fun hparting => ?_, ?_, fun hparting _ => ?_⟩
      · rw [hparting, heard_of_notPresent hne]
        rfl
      · rintro - ⟨⟩
      · rw [hparting, heard_of_notPresent hne]
  · rw [exec_roll hhears hflags, State.rollInMember, presence_heard]
    refine ⟨fun hp hparting => ?_, fun hp hparting => ?_, fun hp hjoined hparting => ?_⟩
    · rw [hp, hparting, heard_of_notPresent (by simp [hp])]
      rfl
    · rw [hp, hparting, heard_of_notPresent (by simp [hp])]
      rfl
    · rw [hp, hparting, hjoined, ← withPresence_heard hp]
      rfl

/-! ### Frames that are answered (O35 to O38) -/

section
variable {s : State}

theorem answer_of_room {d : StationId} {x : Subject} (h : s.answerRoom d x = true) (c : AnswerCode) (n : Seq) :
    s.answer d x c n = { s with answers := placeInQueue s.answers d x c n } := if_pos h

theorem freeSlot_of_full (h : ∀ k : SlotId, s.slot k ≠ .free) : s.freeSlot = none := by
  cases hk : s.freeSlot with
  | none => rfl
  | some k => exact absurd (State.freeSlot_spec hk).1 (h k)

variable {p : StationId}

theorem receiveOpen_of_room (h : s.answerRoom p .openReq = true) : s.receiveOpen p =
    if (s.peer p).presence = .present then { s.withRx p (some 0) with answers := placeInQueue s.answers p .openReq .taken 0 }
    else { s with answers := placeInQueue s.answers p .openReq .refused 0 } := by
  rw [State.receiveOpen, if_neg (by simp [h])]
  refine if_congr (by simp [State.isPresent]) ?_ ?_
  · exact answer_of_room (s := s.withRx p (some 0)) h _ _
  · exact answer_of_room h _ _

theorem receiveOpen_of_noRoom (h : s.answerRoom p .openReq = false) : s.receiveOpen p = s := if_pos h

theorem receiveData_of_noRoom (h : s.answerRoom p .data = false) (q : Seq) (payload : List Byte) : s.receiveData p q payload = s :=
  if_pos h

theorem receiveData_of_noRecord (h : s.answerRoom p .data = true) (hrx : (s.peer p).rx = none) (q : Seq) (payload : List Byte) :
    s.receiveData p q payload = { s with answers := placeInQueue s.answers p .data .noSession 0 } := by
  rw [State.receiveData, if_neg (by simp [h]), hrx]
  exact answer_of_room h _ _

/-- A frame whose sequence is not the expected one (R133, R134). -/
theorem receiveData_of_notNew (h : s.answerRoom p .data = true) {e q : Seq} (hrx : (s.peer p).rx = some e) (hne : e ≠ q)
    (payload : List Byte) : s.receiveData p q payload =
      { s with answers := placeInQueue s.answers p .data (if (e - q).val ≤ 4 then .taken else .gap) e } := by
  rw [State.receiveData, if_neg (by simp [h]), hrx]
  refine (if_neg (sub_ne_zero.mpr hne)).trans ?_
  by_cases hd : (e - q).val ≤ 4
  · rw [if_pos hd, if_pos hd, answer_of_room h]
  · rw [if_neg hd, if_neg hd, answer_of_room h]

theorem receiveData_of_full (h : s.answerRoom p .data = true) {e : Seq} (hrx : (s.peer p).rx = some e)
    (hfull : ∀ k : SlotId, s.slot k ≠ .free) (payload : List Byte) :
    s.receiveData p e payload = { s with answers := placeInQueue s.answers p .data .hold e } := by
  rw [State.receiveData, if_neg (by simp [h]), hrx]
  refine (if_pos (sub_self e)).trans ?_
  rw [freeSlot_of_full hfull]
  exact answer_of_room h _ _

/-- A new frame is delivered together with its TAKEN (R131). -/
theorem receiveData_of_slot (h : s.answerRoom p .data = true) {e : Seq} (hrx : (s.peer p).rx = some e) {k : SlotId}
    (hk : s.freeSlot = some k) (payload : List Byte) : s.receiveData p e payload =
      { (s.accept k p .direct payload).withRx p (some (e + 1)) with
        answers := placeInQueue s.answers p .data .taken (e + 1) } := by
  rw [State.receiveData, if_neg (by simp [h]), hrx]
  refine (if_pos (sub_self e)).trans ?_
  rw [hk]
  exact answer_of_room (s := (s.accept k p .direct payload).withRx p (some (e + 1))) h _ _

theorem receiveGroup_of_ignored (g : GroupId) (q : Seq) (payload : List Byte)
    (h : (s.peer p).presence ≠ .present ∨ s.answerRoom p .group = false) : s.receiveGroup p g q payload = s := by
  by_cases hp : (s.peer p).presence = .present
  · have hroom := h.resolve_left (not_not.mpr hp)
    rw [State.receiveGroup, if_neg (by simp [State.isPresent, hp])]
    by_cases hlast : (s.peer p).lastGroup = some q
    · rw [if_pos hlast, State.answer, if_neg (by simp [hroom])]
    · rw [if_neg hlast, if_pos hroom]
  · exact if_pos (by simp [State.isPresent, hp])

section
variable (hp : (s.peer p).presence = .present) (hroom : s.answerRoom p .group = true)
include hp hroom

theorem receiveGroup_of_again {q : Seq} (h : (s.peer p).lastGroup = some q) (g : GroupId) (payload : List Byte) :
    s.receiveGroup p g q payload = { s with answers := placeInQueue s.answers p .group .taken q } := by
  rw [State.receiveGroup, if_neg (by simp [State.isPresent, hp]), if_pos h, answer_of_room hroom]

theorem receiveGroup_of_full {q : Seq} (h : (s.peer p).lastGroup ≠ some q) (hfull : ∀ k : SlotId, s.slot k ≠ .free) (g : GroupId)
    (payload : List Byte) : s.receiveGroup p g q payload = { s with answers := placeInQueue s.answers p .group .hold q } := by
  rw [State.receiveGroup, if_neg (by simp [State.isPresent, hp]), if_neg h, if_neg (by simp [hroom]), freeSlot_of_full hfull]
  exact answer_of_room hroom _ _

theorem receiveGroup_of_slot {q : Seq} (h : (s.peer p).lastGroup ≠ some q) {k : SlotId} (hk : s.freeSlot = some k) (g : GroupId)
    (payload : List Byte) : s.receiveGroup p g q payload =
      { (s.accept k p (.group g) payload).withLastGroup p (some q) with
        answers := placeInQueue s.answers p .group .taken q } := by
  rw [State.receiveGroup, if_neg (by simp [State.isPresent, hp]), if_neg h, if_neg (by simp [hroom]), hk]
  exact answer_of_room (s := (s.accept k p (.group g) payload).withLastGroup p (some q)) hroom _ _

end

end

/-- Settles O35. -/
theorem openToThisStation : Obligations.OpenToThisStation := by
  intro s p q hhears
  rw [exec_openFrame hhears]
  refine ⟨fun hroom => ?_, fun hroom hp => ?_, fun hroom hp => ?_⟩
  · rw [receiveOpen_of_noRoom (s := heard s p false) hroom]
  · rw [receiveOpen_of_room (s := heard s p false) hroom, presence_heard, if_neg hp]
    rfl
  · rw [receiveOpen_of_room (s := heard s p false) hroom, presence_heard, if_pos hp, State.withRx, peer_heard_of_present hp,
      withPeer_heard hp]
    rfl

/-- Settles O36. -/
theorem dataNew : Obligations.DataNew := by
  intro s urgent p e payload hhears hlen hrx
  rw [exec_data hhears hlen]
  have hrx' : ((heard s p true).peer p).rx = some e := (rx_heard true).trans hrx
  refine ⟨fun hroom => ?_, fun hroom hfull => ?_, fun k hroom hk hlow => ?_⟩
  · rw [receiveData_of_noRoom (s := heard s p true) hroom]
  · rw [receiveData_of_full (s := heard s p true) hroom hrx' hfull]
    rfl
  · have hfree : (heard s p true).freeSlot = some k := freeSlot_of_lowest (s := heard s p true) hk hlow
    rw [receiveData_of_slot (s := heard s p true) hroom hrx' hfree]
    rfl

/-- Settles O37. -/
theorem dataNotNew : Obligations.DataNotNew := by
  intro s urgent p q payload hhears hlen hold
  rw [exec_data hhears hlen]
  refine ⟨fun hroom => ?_, fun hroom => ⟨fun hrx => ?_, fun e hrx => ⟨fun hd => ?_, fun hd => ?_⟩⟩⟩
  · rw [receiveData_of_noRoom (s := heard s p true) hroom]
  · rw [receiveData_of_noRecord (s := heard s p true) hroom ((rx_heard true).trans hrx)]
    rfl
  · rw [receiveData_of_notNew (s := heard s p true) hroom ((rx_heard true).trans hrx) (hold e hrx), if_pos hd]
    rfl
  · rw [receiveData_of_notNew (s := heard s p true) hroom ((rx_heard true).trans hrx) (hold e hrx), if_neg (by omega)]
    rfl

/-- Settles O38. -/
theorem groupFrame : Obligations.GroupFrame := by
  intro s urgent p g q payload hhears hlen hgroup
  rw [exec_group hhears hlen hgroup]
  refine ⟨fun h => ?_, fun hp hroom => ?_⟩
  · rw [receiveGroup_of_ignored (s := heard s p true) g q payload (by rw [presence_heard]; exact h)]
  · have hp' : ((heard s p true).peer p).presence = .present := (presence_heard true).trans hp
    refine ⟨fun hlast => ?_, fun hlast => ?_⟩
    · rw [receiveGroup_of_again hp' hroom ((lastGroup_heard true).trans hlast)]
      rfl
    · have hlast' : ((heard s p true).peer p).lastGroup ≠ some q := by rw [lastGroup_heard]; exact hlast
      refine ⟨fun hfull => ?_, fun k hk hlow => ?_⟩
      · rw [receiveGroup_of_full hp' hroom hlast' hfull]
        rfl
      · have hfree : (heard s p true).freeSlot = some k := freeSlot_of_lowest (s := heard s p true) hk hlow
        rw [receiveGroup_of_slot hp' hroom hlast' hfree]
        have hpeers : ((heard s p true).withPeer p { (heard s p true).peer p with lastGroup := some q }).peers =
            s.peers.set p.val { s.peer p with silence := 0, lastGroup := some q } := by
          rw [peer_heard_of_present hp, withPeer_heard hp]
        rw [← hpeers]
        rfl

end Sys2Proof.Machine
end

section
/-!
PROOFS. The answers of peers: the OPEN handshake (O43), the lane (O44), and the window of a session (O40 to O42), with what a
reopening break leaves.
-/
namespace Sys2Proof.Machine

open Sys2Proof Sys2Proof.Safety

/-! ### Answers to an OPEN (O43) -/

section
variable {s : State} {p : StationId}

/-- A session written over one of a peer that has just been heard. -/
theorem withTx_heard (h : (s.peer p).presence = .present) (y : Option TxSession) : (heard s p false).withTx p y =
    { heard s p false with peers := s.peers.set p.val { s.peer p with silence := 0, tx := y } } := by
  rw [State.withTx, peer_heard_of_present h, withPeer_heard h]

theorem openAnswer_of_taken {x : TxSession} (hx : s.tx p = some x) (hst : x.state = .opening) :
    s.openAnswer p .taken 0 = s.withTx p (some x.becomeOpen) := by
  simp only [State.openAnswer, hx, hst, reduceCtorEq, if_false, if_true]

theorem openAnswer_of_refused {x : TxSession} (hx : s.tx p = some x) (hst : x.state = .opening) (n : Seq) :
    s.openAnswer p .refused n = s.retryStep p x .peerUnreachable fun t =>
      { t with openDue := false, refusalPause := true, answerTimer := some s.cfg.answerWait } := by
  simp only [State.openAnswer, hx, hst, reduceCtorEq, if_false]

theorem openAnswer_of_ignored {code : AnswerCode} {n : Seq} (h : s.tx p = none ∨ (∃ x, s.tx p = some x ∧ x.state = .opened) ∨
    (code = .taken ∧ n ≠ 0) ∨ code = .gap ∨ code = .hold ∨ code = .noSession) : s.openAnswer p code n = s := by
  unfold State.openAnswer
  cases hx : s.tx p with
  | none => rfl
  | some x =>
    rw [hx] at h
    by_cases hst : x.state = .opened
    · exact if_pos hst
    · refine (if_neg hst).trans ?_
      rcases h with h | ⟨y, hy, hopened⟩ | ⟨rfl, hn⟩ | rfl | rfl | rfl
      · cases h
      · exact absurd (Option.some.inj hy ▸ hopened) hst
      · exact if_neg hn
      · rfl
      · rfl
      · rfl

end

/-- Settles O43. -/
theorem answerOpen : Obligations.AnswerOpen := by
  unfold Obligations.AnswerOpen
  refine fun s p n hhears hp => ⟨fun x hx hst => ⟨?_, fun hretry => ?_, fun hretry => ?_⟩, fun code h => ?_⟩
  · rw [exec_answerOpen hhears, openAnswer_of_taken ((tx_heard false).trans hx) hst, withTx_heard hp]
    rfl
  · rw [exec_answerOpen hhears, openAnswer_of_refused ((tx_heard false).trans hx) hst,
      retryStep_below (s := heard s p false) hretry, withTx_heard hp]
    rfl
  · rw [exec_answerOpen hhears, openAnswer_of_refused ((tx_heard false).trans hx) hst,
      retryStep_at (s := heard s p false) hretry, withTx_heard hp]
  · rw [exec_answerOpen hhears, openAnswer_of_ignored]
    rw [show (heard s p false).tx p = (s.peer p).tx from tx_heard false]
    exact h

/-! ### Answers to the lane's frame (O44) -/

section
variable {s : State}

theorem settleLane_of_pending {l : Lane} (h : l.pending ≠ 0) : s.settleLane l = s.withLane l := if_neg h

/-- The completion of the lane's parcel: DELIVERED, or PARTIAL with MEMBER-LOST when members were lost (R151). -/
theorem settleLane_of_done {l : Lane} {c : Parcel} (h : l.pending = 0) (hc : s.slot l.slot = .inFlight c) : s.settleLane l =
    ({ s with
       slots := s.slots.set l.slot.val (.done c
         (if l.lost = 0 then ⟨.delivered, .none, some (l.answered, 0)⟩ else ⟨.partly, .memberLost, some (l.answered, l.lost)⟩))
       report := s.report ++ [.outcome l.slot]
       gu := { s.gu with lane := none } } : State).load := by
  have hmissing : l.pending ||| l.lost = l.lost := by rw [h]; exact BitVec.zero_or
  rw [State.settleLane, if_pos h]
  by_cases hlost : l.lost = 0
  · rw [if_pos hlost, if_pos hlost, endLane_of_inFlight hc, hmissing, hlost]
  · rw [if_neg hlost, if_neg hlost, endLane_of_inFlight hc, hmissing]

theorem groupAnswer_of_pending {l : Lane} {m : StationId} (hl : s.gu.lane = some l) (hm : hasStation l.pending m = true) :
    s.groupAnswer m .taken l.seq = s.settleLane (l.withAnswered m) := by
  simp only [State.groupAnswer, hl, hm, and_self, if_true]

theorem groupAnswer_of_ignored {m : StationId} {code : AnswerCode} {n : Seq}
    (h : s.gu.lane = none ∨ ∃ l, s.gu.lane = some l ∧ (n ≠ l.seq ∨ code ≠ .taken ∨ hasStation l.pending m = false)) :
    s.groupAnswer m code n = s := by
  unfold State.groupAnswer
  rcases h with hl | ⟨l, hl, hno⟩
  · rw [hl]
  · rw [hl]
    refine if_neg ?_
    rintro ⟨hn, hcode, hm⟩
    rcases hno with h | h | h
    · exact h hn
    · exact h hcode
    · simp [hm] at h

end

/-- Settles O44. -/
theorem answerGroup : Obligations.AnswerGroup := by
  unfold Obligations.AnswerGroup
  refine fun s m code n hhears => ⟨fun h => ?_, fun l hl hm => ⟨fun hpending => ?_, fun hpending c hc => ?_⟩⟩
  · rw [exec_answerGroup hhears, groupAnswer_of_ignored (s := heard s m false) h]
  · rw [exec_answerGroup hhears, groupAnswer_of_pending (s := heard s m false) hl hm,
      settleLane_of_pending (l := l.withAnswered m) hpending]
    rfl
  · rw [exec_answerGroup hhears, groupAnswer_of_pending (s := heard s m false) hl hm,
      settleLane_of_done (s := heard s m false) (l := l.withAnswered m) hpending hc]
    rfl

/-! ### The answers that acknowledge (O40, O41) -/

section
variable {s : State} {p : StationId} {x : TxSession}

/-- The state after the removals of an answer with number `n` (R112). -/
def State.afterRemovals (s : State) (x : TxSession) (n : Seq) : State :=
  s.setOutcomes ((x.window.take (x.acked n)).map (·.slot)) fun _ => directOutcome .delivered .none

theorem cfg_afterRemovals (n : Seq) : (s.afterRemovals x n).cfg = s.cfg := by simp [State.afterRemovals]

theorem afterRemovals_of_none {n : Seq} (h : x.acked n = 0) : s.afterRemovals x n = s := by
  rw [State.afterRemovals, h]
  rfl

theorem dataAnswer_of_stale {n : Seq} (hx : s.tx p = some x) (hst : x.state = .opened) (h : x.window.length < x.acked n)
    {code : AnswerCode} (hcode : code = .taken ∨ code = .gap ∨ code = .hold) : s.dataAnswer p code n = s := by
  rcases hcode with rfl | rfl | rfl <;> simp only [State.dataAnswer, hx, hst, reduceCtorEq, or_self, if_false, h, if_true]

theorem dataAnswer_of_removals {n : Seq} (hx : s.tx p = some x) (hst : x.state = .opened) (h : x.acked n ≤ x.window.length)
    {code : AnswerCode} (hcode : code = .taken ∨ code = .gap ∨ code = .hold) : s.dataAnswer p code n =
      (s.afterRemovals x n).actOnAnswer p x code (x.window.take (x.acked n)) (x.window.drop (x.acked n)) := by
  have hnot : ¬ x.window.length < x.acked n := Nat.not_lt.mpr h
  rcases hcode with rfl | rfl | rfl <;>
    simp only [State.dataAnswer, hx, hst, reduceCtorEq, or_self, if_false, hnot, State.afterRemovals]

theorem actOnAnswer_emptied {code : AnswerCode} (hcode : code = .gap ∨ code = .hold) (gone : List WindowEntry) :
    s.actOnAnswer p x code gone [] = s.withTx p (some x.onEmptied) := by
  rcases hcode with rfl | rfl <;> rfl

theorem actOnAnswer_gap {rest : List WindowEntry} (hrest : rest ≠ []) (gone : List WindowEntry) :
    s.actOnAnswer p x .gap gone rest = s.retryStep p { x with window := rest } .retriesExhausted fun y =>
      { y with resend := rewound rest, answerTimer := none } := if_neg hrest

theorem actOnAnswer_hold {rest : List WindowEntry} (hrest : rest ≠ []) (hhold : x.hold ≠ 15) (gone : List WindowEntry) :
    s.actOnAnswer p x .hold gone rest = s.withTx p (some (x.onHold s.cfg.answerWait gone rest)) :=
  (if_neg hrest).trans (if_neg hhold)

theorem actOnAnswer_holdLimit {rest : List WindowEntry} (hrest : rest ≠ []) (hhold : x.hold = 15) (gone : List WindowEntry) :
    s.actOnAnswer p x .hold gone rest = (s.withTx p (some { x with window := rest })).terminalBreak p .heldTooLong :=
  (if_neg hrest).trans (if_pos hhold)

theorem resendGone_iff {gone : List WindowEntry} : x.resendGone gone = true ↔ ∃ e ∈ gone, x.resend = some e.seq := by
  simp [TxSession.resendGone]

theorem resendAfter_eq (gone rest : List WindowEntry) : x.resendAfter gone rest =
    if (∃ e ∈ gone, x.resend = some e.seq) then rest.head?.map (·.seq) else x.resend :=
  if_congr resendGone_iff rfl rfl

/-- The outcomes of the entries that an answer with number `n` acknowledges, oldest first (R112). -/
def TxSession.removals (x : TxSession) (n : Seq) : List (SlotId × ParcelOutcome) :=
  (x.window.take (x.acked n)).map fun e => (e.slot, directOutcome .delivered .none)

theorem afterRemovals_eq (n : Seq) : s.afterRemovals x n = s.settleAll (x.removals n) := by
  rw [State.afterRemovals, State.setOutcomes_eq_settleAll, List.map_map]
  rfl

theorem removals_slots (n : Seq) : (x.removals n).map (·.1) = (x.window.take (x.acked n)).map (·.slot) := by
  rw [TxSession.removals, List.map_map]
  rfl

theorem removals_entries (n : Seq) :
    (x.removals n).map (fun d => ReportEntry.outcome d.1) = (x.window.take (x.acked n)).map fun e => .outcome e.slot := by
  rw [TxSession.removals, List.map_map]
  rfl

/-- The removals, and the session in its new form, are what `acknowledged` says. -/
theorem acknowledged_afterRemovals (hp : (s.peer p).presence = .present)
    (hflight : ∀ e ∈ x.window, isInFlight (s.slot e.slot) = true) (hdiff : (x.window.map (·.slot)).Nodup) (n : Seq) (y : TxSession) :
    acknowledged s p x (x.acked n) y (((heard s p false).afterRemovals x n).withTx p (some y)) := by
  have hsub := List.take_sublist (x.acked n) x.window
  have hnodup : ((x.removals n).map (·.1)).Nodup := by
    rw [removals_slots]
    exact hdiff.sublist (hsub.map _)
  have hheld : ∀ e ∈ x.window.take (x.acked n), ∃ c, s.slot e.slot = .inFlight c := fun e he =>
    isInFlight_iff.mp (hflight e (hsub.subset he))
  have houtstanding : ∀ d ∈ x.removals n, ∃ c, (heard s p false).outstanding d.1 c := fun d hd => by
    obtain ⟨e, he, rfl⟩ := List.mem_map.mp hd
    exact (hheld e he).imp fun _ => .inr
  rw [afterRemovals_eq]
  refine ⟨?_, fun e he => ?_, fun j hj => ?_⟩
  · rw [State.settleAll_eq hnodup houtstanding, removals_entries]
    have htx := congrArg State.peers (withTx_heard hp (some y))
    have hpeers : (heard s p false).peers.set p.val { (heard s p false).peer p with tx := some y } =
        s.peers.set p.val { s.peer p with silence := 0, tx := some y } := htx
    rw [← hpeers]
    rfl
  · obtain ⟨c, hc⟩ := hheld e he
    refine ⟨c, hc, ?_⟩
    rw [State.slot_withTx]
    exact State.slot_settleAll_of_mem hnodup (List.mem_map.mpr ⟨e, he, rfl⟩) (.inr hc)
  · rw [State.slot_withTx, State.slot_settleAll_of_notMem]
    · rfl
    · intro d hd
      obtain ⟨e, he, rfl⟩ := List.mem_map.mp hd
      exact hj e he

end

/-- Settles O40. -/
theorem answerDataTaken : Obligations.AnswerDataTaken := by
  unfold Obligations.AnswerDataTaken
  intro s p n x hhears hp hx hst
  have hx' : (heard s p false).tx p = some x := (tx_heard false).trans hx
  refine ⟨fun hstale code hcode => ?_, fun hk hflight hdiff => ⟨?_, fun hrest code hcode => ?_⟩⟩
  · rw [exec_answerData hhears, dataAnswer_of_stale hx' hst hstale hcode]
  · refine ⟨_, (exec_answerData hhears _ _).trans (congrArg _ (dataAnswer_of_removals hx' hst hk (.inl rfl))), ?_⟩
    have hack := acknowledged_afterRemovals hp hflight hdiff n
      (x.onTaken s.cfg.answerWait (x.window.take (x.acked n)) (x.window.drop (x.acked n)))
    rw [TxSession.onTaken, resendAfter_eq] at hack
    show acknowledged s p x (x.acked n) _ (((heard s p false).afterRemovals x n).withTx p (some (x.onTaken
      ((heard s p false).afterRemovals x n).cfg.answerWait _ _)))
    rw [cfg_afterRemovals, TxSession.onTaken, resendAfter_eq]
    exact hack
  · have hexec := (exec_answerData hhears code n).trans
      (congrArg _ (dataAnswer_of_removals hx' hst hk (.inr hcode)))
    rw [show x.window.drop (x.acked n) = [] from hrest, actOnAnswer_emptied hcode] at hexec
    exact ⟨_, hexec, acknowledged_afterRemovals hp hflight hdiff n x.onEmptied⟩

/-! ### GAP and HOLD with entries left (O41) -/

section
variable {s : State} {p : StationId} {x : TxSession} {e : WindowEntry} {back : List WindowEntry}

theorem acked_of_oldest (hw : x.window = e :: back) : x.acked e.seq = 0 := by
  have holdest : x.oldest = e.seq := by simp only [TxSession.oldest, hw]
  rw [TxSession.acked, holdest, sub_self]
  rfl

/-- A GAP or a HOLD that leaves entries, in the state after the removals. -/
theorem dataAnswer_of_left {n : Seq} (hx : s.tx p = some x) (hst : x.state = .opened) (hk : x.acked n ≤ x.window.length)
    (hrest : x.window.drop (x.acked n) = e :: back) :
    (x.retry ≠ s.cfg.retryLimit → s.dataAnswer p .gap n = (s.afterRemovals x n).withTx p
      (some { x with window := e :: back, retry := x.retry + 1, resend := some e.seq, answerTimer := none })) ∧
    (x.retry = s.cfg.retryLimit → s.dataAnswer p .gap n =
      ((s.afterRemovals x n).withTx p (some { x with window := e :: back })).terminalBreak p .retriesExhausted) ∧
    (x.hold ≠ 15 → s.dataAnswer p .hold n = (s.afterRemovals x n).withTx p (some { x with
      window := e :: back, hold := x.hold + 1, held := true, answerTimer := none, holdTimer := some s.cfg.answerWait
      resend := if (∃ f ∈ x.window.take (x.acked n), x.resend = some f.seq) then some e.seq else x.resend })) ∧
    (x.hold = 15 → s.dataAnswer p .hold n =
      ((s.afterRemovals x n).withTx p (some { x with window := e :: back })).terminalBreak p .heldTooLong) := by
  have hne : e :: back ≠ [] := List.cons_ne_nil e back
  have hgap := dataAnswer_of_removals hx hst hk (code := .gap) (.inr (.inl rfl))
  have hhold := dataAnswer_of_removals hx hst hk (code := .hold) (.inr (.inr rfl))
  rw [hrest] at hgap hhold
  rw [actOnAnswer_gap hne] at hgap
  refine ⟨fun h => hgap.trans ?_, fun h => hgap.trans ?_, fun h => hhold.trans ?_, fun h => hhold.trans ?_⟩
  · exact retryStep_below (x := { x with window := e :: back }) (by rw [cfg_afterRemovals]; exact h) _ _
  · exact retryStep_at (x := { x with window := e :: back }) (by rw [cfg_afterRemovals]; exact h) _ _
  · rw [actOnAnswer_hold hne h, cfg_afterRemovals, TxSession.onHold, resendAfter_eq]
    rfl
  · exact actOnAnswer_holdLimit hne h _

end

/-- Settles O41. -/
theorem answerDataGapHold : Obligations.AnswerDataGapHold := by
  unfold Obligations.AnswerDataGapHold
  refine ⟨fun s p x e back hhears hp hx hst hw => ?_, fun s p n x e back hhears hp hx hst hrest hflight hdiff => ?_⟩
  · have hx' : (heard s p false).tx p = some x := (tx_heard false).trans hx
    have hacked := acked_of_oldest hw
    have hrest : x.window.drop (x.acked e.seq) = e :: back := by rw [hacked, hw]; rfl
    obtain ⟨hgap, hgapLimit, hhold, hholdLimit⟩ := dataAnswer_of_left hx' hst (by omega) hrest
    rw [afterRemovals_of_none hacked] at hgap hgapLimit hhold hholdLimit
    have hsame : { x with window := e :: back } = x := by rw [← hw]
    have hkept : (∃ f ∈ x.window.take (x.acked e.seq), x.resend = some f.seq) ↔ False := by simp [hacked]
    rw [hsame, withTx_heard hp] at hgapLimit hholdLimit
    simp only [hkept, if_false, ← hw] at hhold
    rw [← hw] at hgap
    rw [withTx_heard hp] at hgap hhold
    refine ⟨fun h => ?_, fun h => ?_, fun h => ?_, fun h => ?_⟩
    · rw [exec_answerData hhears, hgap h]
    · rw [exec_answerData hhears, hhold h]
      rfl
    · rw [exec_answerData hhears, hgapLimit h]
    · rw [exec_answerData hhears, hholdLimit h]
  · have hx' : (heard s p false).tx p = some x := (tx_heard false).trans hx
    have hk : x.acked n ≤ x.window.length := by
      by_contra hlong
      have hnil : x.window.drop (x.acked n) = [] := List.drop_eq_nil_of_le (by omega)
      exact List.cons_ne_nil e back (hrest.symm.trans hnil)
    obtain ⟨hgap, hgapLimit, hhold, hholdLimit⟩ := dataAnswer_of_left hx' hst hk hrest
    have hack := acknowledged_afterRemovals hp hflight hdiff n
    exact ⟨fun h => ⟨_, (exec_answerData hhears _ _).trans (congrArg _ (hgap h)), hack _⟩,
      fun h => ⟨_, (exec_answerData hhears _ _).trans (congrArg _ (hgapLimit h)), hack _⟩,
      fun h => ⟨_, (exec_answerData hhears _ _).trans (congrArg _ (hhold h)), hack _⟩,
      fun h => ⟨_, (exec_answerData hhears _ _).trans (congrArg _ (hholdLimit h)), hack _⟩⟩

/-! ### What a reopening break leaves (R122) -/

section
variable {s : State} {p : StationId} {cause : Cause} {x : TxSession}

theorem slot_foldl_toWaiting_of_notMem {l : List WindowEntry} {k : SlotId} (h : ∀ e ∈ l, e.slot ≠ k) :
    ∀ s : State, (l.foldl (fun t e => t.toWaiting e.slot) s).slot k = s.slot k := by
  induction l with
  | nil => exact fun s => rfl
  | cons e l ih =>
    intro s
    rw [List.foldl_cons, ih fun f hf => h f (List.mem_cons_of_mem _ hf), State.slot_toWaiting,
      if_neg (h e List.mem_cons_self).symm]

theorem slot_foldl_toWaiting_of_mem {l : List WindowEntry} (hdiff : (l.map (·.slot)).Nodup) {e : WindowEntry} (he : e ∈ l)
    {c : Parcel} : ∀ {s : State}, s.slot e.slot = .inFlight c →
      (l.foldl (fun t e => t.toWaiting e.slot) s).slot e.slot = .waiting { c with sentOnce := false } := by
  induction l with
  | nil => cases he
  | cons f l ih =>
    intro s hc
    obtain ⟨hhead, htail⟩ := List.nodup_cons.mp hdiff
    rw [List.foldl_cons]
    rcases List.mem_cons.mp he with rfl | he
    · rw [slot_foldl_toWaiting_of_notMem (k := e.slot) (fun g hg heq => hhead (List.mem_map.mpr ⟨g, hg, heq⟩)), State.slot_toWaiting,
        if_pos rfl, hc]
    · refine ih htail he ?_
      have hne : e.slot ≠ f.slot := fun heq => hhead (List.mem_map.mpr ⟨e, he, heq⟩)
      rw [State.slot_toWaiting, if_neg hne, hc]

/-- The outcomes of a reopening break, oldest first (R122). -/
def State.reopenOutcomes (s : State) (p : StationId) (cause : Cause) (x : TxSession) : List (SlotId × ParcelOutcome) :=
  (x.window.filter (s.countsSent p cause)).map fun e => (e.slot, directOutcome .unconfirmed cause)

theorem reopenedTx_of_tx (hx : s.tx p = some x) : s.reopenedTx p cause =
    if s.returnedWaiting p cause x = [] then none else some (x.reopened (s.returnedWaiting p cause x)) := by
  rw [State.reopenedTx, hx, Option.bind_some]

variable (hheld : parcelsHeldOnce s) (hx : s.tx p = some x)
include hheld hx

theorem reopenOutcomes_nodup : ((s.reopenOutcomes p cause x).map (·.1)).Nodup := by
  rw [State.reopenOutcomes, List.map_map]
  exact (window_nodup_of_heldOnce hheld hx).sublist (List.filter_sublist.map _)

theorem reopenOutcomes_outstanding : ∀ d ∈ s.reopenOutcomes p cause x, ∃ c, s.outstanding d.1 c := fun d hd => by
  obtain ⟨e, he, rfl⟩ := List.mem_map.mp hd
  exact (slot_inFlight_of_heldOnce hheld hx (List.mem_of_mem_filter he)).imp fun _ => .inr

theorem reopeningBreak_eq : s.reopeningBreak p cause = { s with
    slots := (s.reopeningBreak p cause).slots
    report := s.report ++ (x.window.filter (s.countsSent p cause)).map fun e => .outcome e.slot
    peers := s.peers.set p.val { s.peer p with tx := s.reopenedTx p cause } } := by
  have hreport : (s.reopenOutcomes p cause x).map (fun d => ReportEntry.outcome d.1) =
      (x.window.filter (s.countsSent p cause)).map fun e => .outcome e.slot := by
    rw [State.reopenOutcomes, List.map_map]
    rfl
  have hsettle : (s.setOutcomes ((x.window.filter (s.countsSent p cause)).map (·.slot)) fun _ => directOutcome .unconfirmed cause) =
      { s with slots := (s.settleAll (s.reopenOutcomes p cause x)).slots
               report := s.report ++ (x.window.filter (s.countsSent p cause)).map fun e => .outcome e.slot } := by
    rw [State.setOutcomes_eq_settleAll, List.map_map, ← hreport]
    exact State.settleAll_eq (reopenOutcomes_nodup hheld hx) (reopenOutcomes_outstanding hheld hx)
  have hback : ∀ (l : List WindowEntry) (u : State),
      l.foldl (fun t e => t.toWaiting e.slot) u = { u with slots := (l.foldl (fun t e => t.toWaiting e.slot) u).slots } := by
    intro l
    induction l with
    | nil => exact fun u => rfl
    | cons e l ih =>
      intro u
      have hone : u.toWaiting e.slot = { u with slots := (u.toWaiting e.slot).slots } := by
        unfold State.toWaiting
        split <;> rfl
      rw [List.foldl_cons, ih, hone]
  rw [State.reopeningBreak_of_tx hx, hsettle, hback]
  rfl

theorem slot_reopeningBreak_of_sent {e : WindowEntry} (he : e ∈ x.window.filter (s.countsSent p cause)) :
    ∃ c, s.slot e.slot = .inFlight c ∧ (s.reopeningBreak p cause).slot e.slot = .done c ⟨.unconfirmed, cause, none⟩ := by
  obtain ⟨c, hc⟩ := slot_inFlight_of_heldOnce hheld hx (List.mem_of_mem_filter he)
  refine ⟨c, hc, ?_⟩
  rw [State.reopeningBreak_of_tx hx, State.slot_withTx, slot_foldl_toWaiting_of_notMem, State.setOutcomes_eq_settleAll, List.map_map]
  · exact State.slot_settleAll_of_mem (reopenOutcomes_nodup hheld hx) (List.mem_map.mpr ⟨e, he, rfl⟩) (.inr hc)
  · intro f hf heq
    have hsame : f = e := List.inj_on_of_nodup_map (window_nodup_of_heldOnce hheld hx) (List.mem_of_mem_filter hf)
      (List.mem_of_mem_filter he) heq
    have hsent := (List.mem_filter.mp he).2
    have hnot := (List.mem_filter.mp hf).2
    rw [hsame, hsent] at hnot
    cases hnot

theorem slot_reopeningBreak_of_back {e : WindowEntry} (he : e ∈ x.window.filter fun e => !s.countsSent p cause e) :
    ∃ c, s.slot e.slot = .inFlight c ∧ (s.reopeningBreak p cause).slot e.slot = .waiting { c with sentOnce := false } := by
  obtain ⟨c, hc⟩ := slot_inFlight_of_heldOnce hheld hx (List.mem_of_mem_filter he)
  refine ⟨c, hc, ?_⟩
  rw [State.reopeningBreak_of_tx hx, State.slot_withTx]
  refine slot_foldl_toWaiting_of_mem ((window_nodup_of_heldOnce hheld hx).sublist (List.filter_sublist.map _)) he ?_
  rw [State.setOutcomes_eq_settleAll, State.slot_settleAll_of_notMem, hc]
  intro d hd heq
  obtain ⟨k, hk, rfl⟩ := List.mem_map.mp hd
  obtain ⟨f, hf, rfl⟩ := List.mem_map.mp hk
  have hsame : f = e := List.inj_on_of_nodup_map (window_nodup_of_heldOnce hheld hx) (List.mem_of_mem_filter hf)
    (List.mem_of_mem_filter he) heq
  have hsent := (List.mem_filter.mp hf).2
  have hnot := (List.mem_filter.mp he).2
  rw [← hsame, hsent] at hnot
  cases hnot

omit hheld in
theorem slot_reopeningBreak_of_notHeld {k : SlotId} (h : ∀ e ∈ x.window, e.slot ≠ k) :
    (s.reopeningBreak p cause).slot k = s.slot k := by
  rw [State.reopeningBreak_of_tx hx, State.slot_withTx,
    slot_foldl_toWaiting_of_notMem fun e he => h e (List.mem_of_mem_filter he), State.setOutcomes_eq_settleAll,
    State.slot_settleAll_of_notMem]
  intro d hd
  obtain ⟨j, hj, rfl⟩ := List.mem_map.mp hd
  obtain ⟨e, he, rfl⟩ := List.mem_map.mp hj
  exact h e (List.mem_of_mem_filter he)

end

/-! ### NO-SESSION (O42) -/

section
variable {s : State} {p : StationId}

theorem dataAnswer_of_noSession {x : TxSession} (hx : s.tx p = some x) (hst : x.state = .opened) (n : Seq) :
    s.dataAnswer p .noSession n = s.reopeningBreak p .noSession := by
  simp only [State.dataAnswer, hx, hst, reduceCtorEq, or_self, if_false, if_true]

theorem dataAnswer_of_ignored {code : AnswerCode} (h : ∀ x, s.tx p = some x → x.state = .opening ∨ code = .refused) (n : Seq) :
    s.dataAnswer p code n = s := by
  unfold State.dataAnswer
  cases hx : s.tx p with
  | none => rfl
  | some x => exact if_pos (h x hx)

theorem heldOnce_heard (h : parcelsHeldOnce s) : parcelsHeldOnce (heard s p false) := by
  refine parcelsHeldOnce_of_same (s := s) (fun q => ?_) rfl rfl h
  show ((heard s p false).peer q).tx = (s.peer q).tx
  rw [peer_heard]
  split
  · next hq => rw [hq.1]
  · rfl

end

/-- Settles O42. -/
theorem answerDataNoSession : Obligations.AnswerDataNoSession := by
  unfold Obligations.AnswerDataNoSession
  refine fun s p n hhears => ⟨fun x hp hx hst hheld => ?_, fun code h => ?_⟩
  · have hx' : (heard s p false).tx p = some x := (tx_heard false).trans hx
    have hheld' := heldOnce_heard (p := p) hheld
    refine ⟨_, (exec_answerData hhears _ _).trans (congrArg _ (dataAnswer_of_noSession hx' hst n)), ?_,
      fun e he => slot_reopeningBreak_of_sent hheld' hx' he, fun e he => slot_reopeningBreak_of_back hheld' hx' he,
      fun k hk => slot_reopeningBreak_of_notHeld hx' hk⟩
    have hbreak := reopeningBreak_eq (cause := .noSession) hheld' hx'
    rw [reopenedTx_of_tx hx', peer_heard_of_present hp, peers_heard_of_present hp, Vector.set_set] at hbreak
    exact hbreak
  · rw [exec_answerData hhears, dataAnswer_of_ignored]
    rw [show (heard s p false).tx p = (s.peer p).tx from tx_heard false]
    exact h

end Sys2Proof.Machine
end

section
/-!
PROOFS. What the loss and the restart of a peer bring: the member event at the lane, the outcomes and the notice, the roll that ends a
peer (O33), and the roll timer (O47).
-/
namespace Sys2Proof.Machine

open Sys2Proof Sys2Proof.Safety

/-! ### Operations that add outcome entries only (R182) -/

/-- The report list of `t` is that of `s` with outcome entries appended. -/
def addsOutcomes (s t : State) : Prop := ∃ new : List ReportEntry, (∀ e ∈ new, ∃ k, e = .outcome k) ∧ t.report = s.report ++ new

theorem addsOutcomes_of_report {s t : State} (h : t.report = s.report) : addsOutcomes s t :=
  ⟨[], by simp, by rw [h, List.append_nil]⟩

theorem addsOutcomes.trans {s t u : State} (h : addsOutcomes s t) (h' : addsOutcomes t u) : addsOutcomes s u := by
  obtain ⟨new, hnew, ht⟩ := h
  obtain ⟨new', hnew', hu⟩ := h'
  exact ⟨new ++ new', fun e he => (List.mem_append.mp he).elim (hnew e) (hnew' e), by rw [hu, ht, List.append_assoc]⟩

theorem addsOutcomes_foldl {α : Type} {f : State → α → State} (hf : ∀ s a, addsOutcomes s (f s a)) (l : List α) :
    ∀ s, addsOutcomes s (l.foldl f s) := by
  induction l with
  | nil => exact fun s => addsOutcomes_of_report rfl
  | cons a l ih => exact fun s => (hf s a).trans (ih (f s a))

theorem addsOutcomes_setOutcome (s : State) (k : SlotId) (o : ParcelOutcome) : addsOutcomes s (s.setOutcome k o) := by
  unfold State.setOutcome
  cases s.slot k with
  | waiting c => exact ⟨[.outcome k], by simp, rfl⟩
  | inFlight c => exact ⟨[.outcome k], by simp, rfl⟩
  | _ => exact addsOutcomes_of_report rfl

theorem addsOutcomes_setOutcomes (s : State) (l : List SlotId) (o : SlotId → ParcelOutcome) : addsOutcomes s (s.setOutcomes l o) :=
  addsOutcomes_foldl (fun s k => addsOutcomes_setOutcome s k (o k)) l s

theorem addsOutcomes_terminalBreak (s : State) (p : StationId) (cause : Cause) : addsOutcomes s (s.terminalBreak p cause) := by
  cases hx : s.tx p with
  | none =>
    refine addsOutcomes_of_report ?_
    simp only [State.terminalBreak, hx]
  | some x =>
    rw [State.terminalBreak_of_tx hx]
    exact (addsOutcomes_foldl (fun s (d : SlotId × ParcelOutcome) => addsOutcomes_setOutcome s d.1 d.2) _ s).trans (addsOutcomes_of_report rfl)

theorem addsOutcomes_reopeningBreak (s : State) (p : StationId) (cause : Cause) : addsOutcomes s (s.reopeningBreak p cause) := by
  cases hx : s.tx p with
  | none =>
    refine addsOutcomes_of_report ?_
    simp only [State.reopeningBreak, hx]
  | some x =>
    rw [State.reopeningBreak_of_tx hx]
    exact (addsOutcomes_setOutcomes s _ _).trans
      ((addsOutcomes_foldl (fun s e => addsOutcomes_of_report (by simp)) _ _).trans (addsOutcomes_of_report rfl))

theorem addsOutcomes_loadFrom (l : List SlotId) : ∀ s : State, addsOutcomes s (s.loadFrom l) := by
  induction l with
  | nil => exact fun s => addsOutcomes_of_report rfl
  | cons k rest ih =>
    intro s
    rw [State.loadFrom]
    split
    · exact (addsOutcomes_setOutcome s k _).trans (ih _)
    · refine addsOutcomes_of_report ?_
      show (s.toInFlight k).report = s.report
      simp

theorem addsOutcomes_load (s : State) : addsOutcomes s s.load := by
  unfold State.load
  split
  · exact addsOutcomes_loadFrom _ s
  · exact addsOutcomes_of_report rfl

theorem addsOutcomes_endLane (s : State) (l : Lane) (code : OutcomeCode) (cause : Cause) : addsOutcomes s (s.endLane l code cause) :=
  (addsOutcomes_setOutcome s l.slot _).trans (addsOutcomes_of_report rfl)

theorem addsOutcomes_settleLane (s : State) (l : Lane) : addsOutcomes s (s.settleLane l) := by
  unfold State.settleLane
  split
  · split
    · exact (addsOutcomes_endLane s l _ _).trans (addsOutcomes_load _)
    · exact (addsOutcomes_endLane s l _ _).trans (addsOutcomes_load _)
  · exact addsOutcomes_of_report rfl

theorem addsOutcomes_groupPeerEvent (s : State) (p : StationId) : addsOutcomes s (s.groupPeerEvent p) := by
  refine addsOutcomes.trans (t := s.withLastGroup p none) (addsOutcomes_of_report rfl) ?_
  unfold State.groupPeerEvent State.memberLost
  split
  · exact addsOutcomes_of_report rfl
  · split
    · exact addsOutcomes_settleLane _ _
    · exact addsOutcomes_of_report rfl

theorem addsOutcomes_peerAbsent (s : State) (p : StationId) (cause : Cause) : addsOutcomes s (s.peerAbsent p cause) :=
  (addsOutcomes_of_report rfl).trans
    ((addsOutcomes_terminalBreak ((s.withPresence p .absent 0 0).withRx p none) p cause).trans (addsOutcomes_groupPeerEvent _ p))

theorem addsOutcomes_peerRestart (s : State) (p : StationId) : addsOutcomes s (s.peerRestart p) :=
  (addsOutcomes_of_report rfl).trans
    ((addsOutcomes_reopeningBreak (s.withRx p none) p .peerRestarted).trans (addsOutcomes_groupPeerEvent _ p))

/-! ### The member event at the lane (R151, R152, R157) -/

theorem addStation_ne_zero (m : StationSet) (p : StationId) : addStation m p ≠ 0 := by
  intro h
  have hp : hasStation (addStation m p) p = true := by rw [hasStation_addStation]; simp
  rw [h, hasStation_zero] at hp
  cases hp

section
variable {s : State} {p : StationId}

theorem groupPeerEvent_of_notPending (h : ∀ l, s.gu.lane = some l → hasStation l.pending p = false) :
    s.groupPeerEvent p = s.withLastGroup p none := by
  unfold State.groupPeerEvent State.memberLost
  cases hl : s.gu.lane with
  | none => simp only [State.withLastGroup_gu, hl]
  | some l => simp only [State.withLastGroup_gu, hl, h l hl, Bool.false_eq_true, if_false]

theorem groupPeerEvent_of_pending {l : Lane} (hl : s.gu.lane = some l) (hp : hasStation l.pending p = true) :
    s.groupPeerEvent p = (s.withLastGroup p none).settleLane (l.withLost p) := by
  simp only [State.groupPeerEvent, State.memberLost, State.withLastGroup_gu, hl, hp, if_true]

theorem memberGone_groupPeerEvent (s : State) (p : StationId) : memberGone s p (s.groupPeerEvent p) := by
  unfold memberGone
  refine ⟨fun h => groupPeerEvent_of_notPending h, fun l hl hp => ⟨fun hpending => ?_, fun hpending c hc => ?_⟩⟩
  · rw [groupPeerEvent_of_pending hl hp, settleLane_of_pending (l := l.withLost p) hpending]
    rfl
  · have hlost : (l.withLost p).lost ≠ 0 := addStation_ne_zero _ _
    rw [groupPeerEvent_of_pending hl hp, settleLane_of_done (s := s.withLastGroup p none) (l := l.withLost p) hpending hc,
      if_neg hlost]
    rfl

/-- The lane after a member event that leaves it BUSY. -/
theorem lane_groupPeerEvent {l : Lane} (hl : s.gu.lane = some l) :
    (hasStation l.pending p = true → dropStation l.pending p ≠ 0 → (s.groupPeerEvent p).gu.lane =
      some { l with pending := dropStation l.pending p, lost := addStation l.lost p }) ∧
    (hasStation l.pending p = false → (s.groupPeerEvent p).gu.lane = some l) := by
  refine ⟨fun hp hpending => ?_, fun hp => ?_⟩
  · rw [groupPeerEvent_of_pending hl hp, settleLane_of_pending (l := l.withLost p) hpending]
    rfl
  · rw [groupPeerEvent_of_notPending fun l' hl' => by rw [hl] at hl'; cases hl'; exact hp]
    exact hl

theorem peer_peerRestart (s : State) (p q : StationId) : (s.peerRestart p).peer q =
    if q = p then { s.peer p with rx := none, tx := s.reopenedTx p .peerRestarted, lastGroup := none } else s.peer q := by
  have htx : (s.withRx p none).reopenedTx p .peerRestarted = s.reopenedTx p .peerRestarted := by
    unfold State.reopenedTx
    rw [tx_withRx]
    rfl
  rw [State.peerRestart, State.peer_groupPeerEvent, State.sessionPeerRestart, State.peer_reopeningBreak, State.peer_reopeningBreak,
    State.peer_withRx, State.peer_withRx, htx]
  by_cases hq : q = p <;> simp [hq]

end

/-! ### A roll that ends or restarts a peer (O33) -/

section
variable {s : State} {p : StationId}

theorem exec_roll_parting (h : hears s p) (hp : (s.peer p).presence = .present) {flags : Byte} (hparting : partingFlag flags = true)
    (hjoined : joinedFlag flags = false) (q : Seq) (groups : GroupSet) : exec (.roll p q groups flags) s =
      .next (((heard s p false).peerAbsent p .peerLeft).raise .peerLeft (some p)) := by
  rw [exec_roll h (by simp [hjoined]), State.rollInMember, presence_heard, hp, hjoined, hparting]
  rfl

theorem exec_roll_joined (h : hears s p) (hp : (s.peer p).presence = .present) {flags : Byte} (hjoined : joinedFlag flags = true)
    (hparting : partingFlag flags = false) (q : Seq) (groups : GroupSet) : exec (.roll p q groups flags) s =
      .next ((((heard s p false).peerRestart p).takeGroups p groups).raise .peerRestarted (some p)) := by
  rw [exec_roll h (by simp [hparting]), State.rollInMember, presence_heard, hp, hjoined]
  rfl

@[simp] theorem heard_gu (isData : Bool) : (heard s p isData).gu = s.gu := rfl

/-- What the end and the restart of a heard peer, at the state `t`, have in common. -/
def rollEnds (s : State) (p : StationId) (t : State) : Prop :=
  t.tu = s.tu ∧ t.mu = s.mu ∧ t.answers = s.answers ∧ t.delivered = s.delivered ∧ t.lm = .atMark ∧ t.fr = .reset ∧
  addsOutcomes s t ∧
  (∀ l, s.gu.lane = some l → hasStation l.pending p = true → dropStation l.pending p ≠ 0 →
    t.gu.lane = some { l with pending := dropStation l.pending p, lost := addStation l.lost p }) ∧
  ∀ l, s.gu.lane = some l → hasStation l.pending p = false → t.gu.lane = some l

theorem rollEnds_peerAbsent (s : State) (p : StationId) (cause : Cause) : rollEnds s p ((heard s p false).peerAbsent p cause) := by
  have hkeeps := (heard s p false).peerAbsent_keeps p cause
  obtain ⟨-, -, -, hlm, hfr, htu, hmu, hdelivered, -, hanswers, -, -⟩ := hkeeps
  have hlane : ∀ {l}, s.gu.lane = some l →
      (((heard s p false).withPresence p .absent 0 0).sessionPeerAbsent p cause).gu.lane = some l := fun hl => by simpa using hl
  exact ⟨htu, hmu, hanswers, hdelivered, hlm, hfr, addsOutcomes_peerAbsent (heard s p false) p cause,
    fun l hl => (lane_groupPeerEvent (hlane hl)).1, fun l hl => (lane_groupPeerEvent (hlane hl)).2⟩

theorem rollEnds_peerRestart (s : State) (p : StationId) (groups : GroupSet) :
    rollEnds s p (((heard s p false).peerRestart p).takeGroups p groups) := by
  have hkeeps := (heard s p false).peerRestart_keeps p
  obtain ⟨-, -, -, hlm, hfr, htu, hmu, hdelivered, -, hanswers, -, -⟩ := hkeeps
  have hlane : ∀ {l}, s.gu.lane = some l → ((heard s p false).sessionPeerRestart p).gu.lane = some l := fun hl => by simpa using hl
  exact ⟨htu, hmu, hanswers, hdelivered, hlm, hfr, addsOutcomes_peerRestart (heard s p false) p,
    fun l hl => (lane_groupPeerEvent (hlane hl)).1, fun l hl => (lane_groupPeerEvent (hlane hl)).2⟩

theorem peer_heard_of_ne {q : StationId} (h : q ≠ p) (isData : Bool) : (heard s p isData).peer q = s.peer q := by
  rw [peer_heard, if_neg fun hq => h hq.1]

theorem reopenedTx_heard : (heard s p false).reopenedTx p .peerRestarted = s.reopenedTx p .peerRestarted := by
  unfold State.reopenedTx
  rw [show (heard s p false).tx p = s.tx p from tx_heard false]
  rfl

theorem peer_restartTaken (hp : (s.peer p).presence = .present) (groups : GroupSet) (q : StationId) :
    ((((heard s p false).peerRestart p).takeGroups p groups).peer q) = if q = p then { s.peer p with
      presence := .present, groups := groups, silence := 0, rx := none, tx := s.reopenedTx p .peerRestarted, lastGroup := none }
    else s.peer q := by
  rw [State.takeGroups, State.peer_withPresence, peer_peerRestart, peer_peerRestart, reopenedTx_heard]
  by_cases hq : q = p
  · rw [if_pos hq, if_pos rfl, peer_heard_of_present hp, if_pos hq]
  · rw [if_neg hq, if_neg hq, if_neg hq, peer_heard_of_ne hq]

end

/-- The session of a peer that restarts (R122). -/
theorem reopenedTx_cases {s : State} {p : StationId} {cause : Cause} {x : TxSession} (hx : s.tx p = some x) :
    let back := x.window.filter fun e => !s.countsSent p cause e
    (back = [] → x.waiting = [] → s.reopenedTx p cause = none) ∧
    (back ≠ [] ∨ x.waiting ≠ [] →
      s.reopenedTx p cause = some (x.reopened (back.map (fun e => ⟨e.slot, true⟩) ++ x.waiting))) := by
  refine ⟨fun hback hwaiting => (reopenedTx_of_tx hx).trans (if_pos ?_), fun hsome => (reopenedTx_of_tx hx).trans (if_neg ?_)⟩
  · rw [State.returnedWaiting, hback, hwaiting]
    rfl
  · intro hnil
    obtain ⟨hback, hwaiting⟩ := List.append_eq_nil_iff.mp hnil
    exact hsome.elim (fun h => h (List.map_eq_nil_iff.mp hback)) (fun h => h hwaiting)

/-- Settles O33: the peer-absent or the peer-restart event of a heard peer, and then its notice. -/
theorem rollEndsPeer : Obligations.RollEndsPeer := by
  unfold Obligations.RollEndsPeer
  refine ⟨fun s p q groups flags hhears hp hflags hone => ?_, fun s p cause => ⟨fun hnone => ?_, ?_, ?_, fun x hx hheld => ?_⟩,
    fun s p q groups flags hhears hp => ⟨fun hparting hjoined => ?_, fun hjoined hparting => ?_⟩⟩
  · cases hjoined : joinedFlag flags with
    | false =>
      have hparting : partingFlag flags = true := by simpa [hjoined] using hone
      have hpeer : ∀ q, ((heard s p false).peerAbsent p .peerLeft).peer q = if q = p then PeerEntry.empty .absent else s.peer q := by
        intro q
        rw [State.peer_peerAbsent]
        exact ite_congr rfl (fun _ => rfl) fun hq => peer_heard_of_ne hq false
      have hends := rollEnds_peerAbsent s p .peerLeft
      rw [exec_roll_parting hhears hp hparting hjoined q groups]
      generalize (heard s p false).peerAbsent p .peerLeft = v at hpeer hends
      obtain ⟨htu, hmu, hanswers, hdelivered, hlm, hfr, ⟨new, hnew, hreport⟩, hlost, hkept⟩ := hends
      have hself : v.peer p = PeerEntry.empty .absent := (hpeer p).trans (if_pos rfl)
      refine ⟨_, rfl, ⟨new, hnew, by rw [State.raise_report, hreport]; rfl⟩, congrArg PeerEntry.rx hself,
        congrArg PeerEntry.lastGroup hself, congrArg PeerEntry.silence hself, fun p' hne => (hpeer p').trans (if_neg hne), htu, hmu,
        hanswers, hdelivered, hlm, hfr, hlost, hkept, fun _ => ⟨congrArg PeerEntry.presence hself, congrArg PeerEntry.groups hself,
          congrArg PeerEntry.tx hself⟩, fun h => ?_⟩
      cases h
    | true =>
      have hparting : partingFlag flags = false := by simpa [hjoined] using hflags
      have hpeer := peer_restartTaken hp groups
      have hends := rollEnds_peerRestart s p groups
      rw [exec_roll_joined hhears hp hjoined hparting q groups]
      generalize ((heard s p false).peerRestart p).takeGroups p groups = v at hpeer hends
      obtain ⟨htu, hmu, hanswers, hdelivered, hlm, hfr, ⟨new, hnew, hreport⟩, hlost, hkept⟩ := hends
      have hself := (hpeer p).trans (if_pos rfl)
      refine ⟨_, rfl, ⟨new, hnew, by rw [State.raise_report, hreport]; rfl⟩, congrArg PeerEntry.rx hself,
        congrArg PeerEntry.lastGroup hself, congrArg PeerEntry.silence hself, fun p' hne => (hpeer p').trans (if_neg hne), htu, hmu,
        hanswers, hdelivered, hlm, hfr, hlost, hkept, fun h => ?_, fun _ => ⟨congrArg PeerEntry.presence hself,
          congrArg PeerEntry.groups hself, fun hnone => (congrArg PeerEntry.tx hself).trans ?_, fun x hx =>
            ⟨fun hback hwaiting => (congrArg PeerEntry.tx hself).trans ((reopenedTx_cases hx).1 hback hwaiting), fun hsome =>
              ⟨_, (congrArg PeerEntry.tx hself).trans ((reopenedTx_cases hx).2 hsome), rfl, rfl, rfl, rfl, rfl, rfl, rfl, rfl, rfl, rfl,
                rfl⟩⟩⟩⟩
      · rw [hparting] at h
        cases h
      · show s.reopenedTx p .peerRestarted = none
        rw [State.reopenedTx, show s.tx p = none from hnone]
        rfl
  · have htx : s.tx p = none := hnone
    simp only [State.terminalBreak, State.reopeningBreak, htx, and_self]
  · have hevent := memberGone_groupPeerEvent ((s.withPresence p .absent 0 0).sessionPeerAbsent p cause) p
    have hsame : (s.withPresence p .absent 0 0).withRx p none =
        { s with peers := s.peers.set p.val { s.peer p with presence := .absent, groups := 0, silence := 0, rx := none } } := by
      rw [State.withRx, State.peer_withPresence, if_pos rfl, State.withPresence, State.withPeer, State.withPeer]
      simp only [Vector.set_set]
    rw [State.sessionPeerAbsent, hsame] at hevent
    rw [State.peerAbsent, State.sessionPeerAbsent, hsame]
    exact hevent
  · exact memberGone_groupPeerEvent (s.sessionPeerRestart p) p
  · have hbreak := reopeningBreak_eq (cause := cause) hheld hx
    rw [reopenedTx_of_tx hx] at hbreak
    exact ⟨hbreak, fun e he => slot_reopeningBreak_of_sent hheld hx he, fun e he => slot_reopeningBreak_of_back hheld hx he,
      fun k hk => slot_reopeningBreak_of_notHeld hx hk⟩
  · rw [exec_roll_parting hhears hp hparting hjoined]
    rfl
  · rw [exec_roll_joined hhears hp hjoined hparting]
    rfl

/-! ### The roll timer (O47) -/

/-- Steps that each look at their own station only: the stations to act on can be chosen beforehand. -/
theorem foldl_eq_foldl_filter {cond : State → StationId → Bool} {f : State → StationId → State}
    (hlocal : ∀ u p q, q ≠ p → cond (f u p) q = cond u q) {l : List StationId} (hl : l.Nodup) :
    ∀ u, l.foldl (fun u p => if cond u p then f u p else u) u = (l.filter (cond u)).foldl f u := by
  induction l with
  | nil => exact fun u => rfl
  | cons p l ih =>
    intro u
    obtain ⟨hp, hrest⟩ := List.nodup_cons.mp hl
    rw [List.foldl_cons, ih hrest]
    by_cases hc : cond u p = true
    · have hsame : l.filter (cond (f u p)) = l.filter (cond u) :=
        List.filter_congr fun q hq => hlocal u p q fun h => hp (h ▸ hq)
      rw [if_pos hc, List.filter_cons_of_pos hc, List.foldl_cons, hsame]
    · rw [if_neg hc, List.filter_cons_of_neg hc]

section
variable {s : State}

/-- A peer is lost once its silence has reached the limit (R68). -/
def State.losing (s : State) (p : StationId) : Bool := decide ((s.peer p).presence = .present ∧ 3 ≤ (s.peer p).silence)

/-- The loss of a peer, with its notice (R68). -/
def State.losePeer (s : State) (p : StationId) : State := (s.peerAbsent p .peerLost).raise .peerLost (some p)

theorem loseOne_eq (s : State) (p : StationId) : s.loseOne p = if s.losing p then s.losePeer p else s :=
  if_congr (by simp [State.isPresent, State.losing, Config.silenceLimit]) rfl rfl

theorem peer_losePeer (s : State) (p q : StationId) :
    (s.losePeer p).peer q = if q = p then PeerEntry.empty .absent else s.peer q := s.peer_peerAbsent p q .peerLost

/-- The state after the roll timer's flags and the ageing, before any loss (R67, R68). -/
def State.aged (s : State) : State :=
  allStations.foldl State.ageOne { s with mu := { s.mu with rollDue := true, rollTimer := some (10 * s.cfg.rollInterval) } }

theorem peer_aged (p : StationId) : s.aged.peer p =
    if (s.peer p).presence = .present then { s.peer p with silence := (s.peer p).silence + 1 } else s.peer p :=
  foldl_allStations (get := State.peer) (g := fun e => if e.presence = .present then { e with silence := e.silence + 1 } else e)
    (fun s p q => s.peer_ageOne p q) _ p

theorem foldl_ageOne_fields (l : List StationId) : ∀ u : State,
    l.foldl State.ageOne u = { u with peers := (l.foldl State.ageOne u).peers } := by
  induction l with
  | nil => exact fun u => rfl
  | cons p l ih =>
    intro u
    have hone : u.ageOne p = { u with peers := (u.ageOne p).peers } := by
      unfold State.ageOne
      split <;> rfl
    rw [List.foldl_cons, ih, hone]

theorem aged_fields (s : State) : s.aged =
    { s with mu := { s.mu with rollDue := true, rollTimer := some (10 * s.cfg.rollInterval) }, peers := s.aged.peers } :=
  foldl_ageOne_fields _ _

/-- The peers that a roll timer expiry loses, in ascending station number (R68). -/
def State.lostPeers (s : State) : List StationId :=
  allStations.filter fun p => decide ((s.peer p).presence = .present ∧ 2 ≤ (s.peer p).silence)

theorem losing_aged (p : StationId) : s.aged.losing p = decide ((s.peer p).presence = .present ∧ 2 ≤ (s.peer p).silence) := by
  rw [State.losing, peer_aged]
  by_cases hp : (s.peer p).presence = .present
  · rw [if_pos hp]
    simp only [hp, true_and]
    exact decide_eq_decide.mpr (by omega)
  · simp [hp]

theorem rollExpiry_eq (s : State) : s.rollExpiry = s.lostPeers.foldl State.losePeer s.aged := by
  have hlocal : ∀ u p q, q ≠ p → State.losing (State.losePeer u p) q = u.losing q := fun u p q h => by
    rw [State.losing, State.losing, peer_losePeer, if_neg h]
  have hloop : State.loseOne = fun u p => if u.losing p then u.losePeer p else u := funext fun u => funext (loseOne_eq u)
  have hlost : allStations.filter s.aged.losing = s.lostPeers := List.filter_congr fun p _ => losing_aged p
  rw [State.rollExpiry, State.age, ← hlost, ← foldl_eq_foldl_filter hlocal allStations_nodup, ← hloop]
  rfl

theorem exec_rollTimer (hst : s.mu.station = .member) (htimer : s.mu.rollTimer ≠ none) :
    exec .rollTimerExpiry s = .next s.rollExpiry := by
  have hrun : s.mu.station = .member ∧ s.mu.rollTimer.isSome = true := ⟨hst, Option.isSome_iff_ne_none.mpr htimer⟩
  exact congrArg Host.Outcome.next (if_pos hrun)

theorem lostPeers_of_none (h : ∀ p : StationId, (s.peer p).presence = .present → (s.peer p).silence < 2) : s.lostPeers = [] := by
  refine List.filter_eq_nil_iff.mpr fun p _ hp => ?_
  obtain ⟨hpresent, hsilence⟩ := of_decide_eq_true hp
  have hlow := h p hpresent
  omega

theorem lostPeers_of_one {p : StationId} (hp : (s.peer p).presence = .present) (hsilence : (s.peer p).silence = 2)
    (h : ∀ q : StationId, q ≠ p → (s.peer q).presence = .present → (s.peer q).silence < 2) : s.lostPeers = [p] := by
  have hcond : s.lostPeers = allStations.filter (· == p) := by
    refine List.filter_congr fun q _ => ?_
    rw [Bool.eq_iff_iff, decide_eq_true_eq, beq_iff_eq]
    refine ⟨fun ⟨hpresent, hlong⟩ => ?_, fun hq => ?_⟩
    · by_contra hne
      have hlow := h q hne hpresent
      omega
    · rw [hq]
      exact ⟨hp, hsilence.ge⟩
  rw [hcond, List.filter_beq, List.count_eq_one_of_mem allStations_nodup (mem_allStations p)]
  rfl

theorem peer_rollExpiry (q : StationId) : s.rollExpiry.peer q =
    if (s.peer q).presence = .present then
      (if 2 ≤ (s.peer q).silence then PeerEntry.empty .absent else { s.peer q with silence := (s.peer q).silence + 1 })
    else s.peer q :=
  State.peer_age { s with mu := { s.mu with rollDue := true, rollTimer := some s.cfg.rollMillis } } q

end

/-- Settles O47. -/
theorem rollTimer : Obligations.RollTimer := by
  unfold Obligations.RollTimer
  refine fun s hst htimer => ⟨⟨s.rollExpiry, exec_rollTimer hst htimer, ?_, ?_, ?_, ?_, ?_, ?_, fun p hp hlow => ?_,
    fun p hp hlong => ?_, fun p hp => ?_, fun hnone => ?_, fun p hp hlong hothers => ?_⟩, s.aged, aged_fields s,
    fun p => peer_aged p, ?_⟩
  · simp [State.rollExpiry]
    rfl
  · simp
  · simp
  · simp
  · simp
  · simp
  · have hpeer : s.rollExpiry.peer p = { s.peer p with silence := (s.peer p).silence + 1 } := by
      rw [peer_rollExpiry, if_pos hp, if_neg (Nat.not_le.mpr hlow)]
    rw [hpeer]
    exact ⟨hp, rfl, rfl, rfl, rfl⟩
  · have hpeer : s.rollExpiry.peer p = PeerEntry.empty .absent := by
      rw [peer_rollExpiry, if_pos hp, if_pos hlong.ge]
    rw [hpeer]
    exact ⟨rfl, rfl, rfl, rfl, rfl, rfl⟩
  · rw [peer_rollExpiry, if_neg hp]
  · rw [rollExpiry_eq, lostPeers_of_none hnone, List.foldl_nil]
    exact ⟨by rw [aged_fields], by rw [aged_fields], by rw [aged_fields]⟩
  · obtain ⟨new, hnew, hreport⟩ := addsOutcomes_peerAbsent s.aged p .peerLost
    refine ⟨new, hnew, ?_⟩
    rw [rollExpiry_eq, lostPeers_of_one hp hlong hothers, List.foldl_cons, List.foldl_nil, State.losePeer, State.raise_report, hreport,
      show s.aged.report = s.report by rw [aged_fields]]
  · rw [exec_rollTimer hst htimer, rollExpiry_eq]
    rfl

end Sys2Proof.Machine
end

section
/-!
PROOFS. One sample through the blocks: the boundary before it (O18), the record of the Line Monitor (O19), plain bits and readback
(O20), line events (O21), violations and marks (O22, O23), and the ends of an attempt at a sample (O24, O26); and start points (O29).
-/
namespace Sys2Proof.Machine

open Sys2Proof Sys2Proof.Safety

/-! ### The boundary at the end of a bit (O18) -/

section
variable {s : State}

theorem boundary_lm (s : State) : s.boundary.lm = { s.lm with sampled := false } := by
  unfold State.boundary
  split
  · simp [State.nextBit]
  · split
    · simp [State.nextBit]
    · rfl

/-- A boundary that neither ends a break-off nor is a start point in WAIT (R13, R41, R50). -/
theorem boundary_of_plain (hstart : s.lm.quietRun < 10 ∨ s.tu.state ≠ .wait)
    (hbreak : s.tu.state ≠ .breakoff ∨ s.tu.breakoffBits < 12) : s.boundary = s.nextBit := by
  have hover : ¬ s.breakoffOver = true := by
    rw [State.breakoffOver, decide_eq_true_eq]
    rintro ⟨hst, hbits⟩
    rcases hbreak with h | h
    · exact h hst
    · exact absurd (show s.tu.breakoffBits = 12 from hbits) (by omega)
  rw [State.boundary, if_neg hover]
  rcases hstart with hquiet | hst
  · exact if_neg fun h => absurd (show 10 ≤ s.lm.quietRun from of_decide_eq_true h) (by omega)
  · split
    · exact if_neg hst
    · rfl

theorem nextLevel_of_line {x : TransmitBuffer} {bit : LineBit} (hst : s.tu.state = .contend ∨ s.tu.state = .send)
    (hx : s.tu.buffer = some x) (hbit : x.frame.lineBits[s.tu.lineBits]? = some bit) : s.tu.nextLevel = bit.level := by
  have hbits : s.tu.bits = x.frame.lineBits := by rw [TransmitUnit.bits, hx]
  rcases hst with hst | hst <;> simp only [TransmitUnit.nextLevel, hst, hbits, hbit]

theorem atBit_of_sampled (h : s.lm.sampled = true) : s.atBit = s.boundary := if_pos h

theorem atBit_of_open (h : s.lm.sampled = false) : s.atBit = s := if_neg (by simp [h])

theorem atBit_boundary (s : State) : s.boundary.atBit = s.boundary := atBit_of_open (by rw [boundary_lm])

theorem exec_lineSample (hreset : s.inReset = false) (b : Level) : exec (.lineSample b) s = .next (s.atBit.takeSample b) :=
  congrArg Host.Outcome.next (if_neg (by simp [hreset]))

theorem exec_lineSample_of_open (h : bitOpen s) (b : Level) : exec (.lineSample b) s = .next (s.takeSample b) := by
  rw [exec_lineSample h.1, atBit_of_open h.2]

theorem exec_edge (hreset : s.inReset = false) {clocks : Nat} (hclocks : clocks < bitClocks s.mu.rate) :
    exec (.resynchronisation clocks) s = .next (
      if clocks < sampleClocks s.mu.rate then s.atBit else if s.tu.lout = recessive then s.endBitAtEdge else s) :=
  congrArg Host.Outcome.next (if_neg (by simp [hreset, hclocks]))

end

/-- Settles O18. -/
theorem bitBoundaries : Obligations.BitBoundaries := by
  unfold Obligations.BitBoundaries
  refine ⟨⟨fun f => ?_, fun s hreset hsampled => ⟨boundary_lm s, fun b => ?_, fun hstart hbreak => ?_⟩⟩,
    fun s clocks hreset hclocks => ⟨fun hearly hopen => ?_, fun hearly hsampled => ?_, fun hlate hlout => ?_,
      fun hlate hlout hsampled => ?_, fun hlate hlout hopen => ?_⟩⟩
  · show f.lineBits.map (·.level) = markBits.map (·.level) ++ f.stuffed.map (·.level) ++ markBits.map (·.level)
    rw [Frame.lineBits, List.map_append, List.map_append]
  · rw [exec_lineSample hreset, exec_lineSample (by simpa using hreset), atBit_of_sampled hsampled, atBit_boundary]
  · rw [boundary_of_plain hstart hbreak]
    refine ⟨rfl, fun hst => ?_, fun hst => ?_, fun x bit hst hx hbit => nextLevel_of_line hst hx hbit⟩
    · show s.tu.nextLevel = recessive
      simp only [TransmitUnit.nextLevel, hst]
    · show s.tu.nextLevel = dominant
      simp only [TransmitUnit.nextLevel, hst]
  · rw [exec_edge hreset hclocks, if_pos hearly, atBit_of_open hopen]
  · rw [exec_edge hreset hclocks, if_pos hearly, atBit_of_sampled hsampled]
  · rw [exec_edge hreset hclocks, if_neg (by omega), if_neg (by rw [hlout]; decide)]
  · rw [exec_edge hreset hclocks, if_neg (by omega), if_pos hlout, State.endBitAtEdge, if_pos hsampled]
  · rw [exec_edge hreset hclocks, if_neg (by omega), if_pos hlout, State.endBitAtEdge, if_neg (by simp [hopen])]

/-! ### The record of the Line Monitor (O19) -/

/-- Settles O19. -/
theorem sampleUpdatesRecord : Obligations.SampleUpdatesRecord := by
  intro s b hopen
  refine ⟨_, exec_lineSample_of_open hopen b, ?_⟩
  rw [State.takeSample_lm]
  refine ⟨rfl, rfl, fun hsame => ⟨LineMonitor.runAfter_of_same hsame, if_pos (.inr hsame)⟩,
    fun hnone => ⟨LineMonitor.runAfter_of_new (by simp [hnone]), if_pos (.inl hnone)⟩, fun hother => ?_, rfl, fun hs => ?_⟩
  · have hne : s.lm.polarity ≠ some b := by simp [hother]
    have hsome : s.lm.polarity ≠ none := by simp [hother]
    exact ⟨LineMonitor.runAfter_of_new hne, if_neg fun h => h.elim hsome hne⟩
  · show (s.lm.lineAfter b = .quiet ↔ b = recessive ∧ 10 ≤ s.lm.runAfter b) ∧
      (s.lm.lineAfter b = .held ↔ b = dominant ∧ s.lm.runAfter b = 32)
    cases b with
    | true =>
      obtain ⟨hquiet, hheld⟩ := lineAfter_recessive hs
      exact ⟨⟨fun h => ⟨rfl, hquiet.mp h⟩, fun h => hquiet.mpr h.2⟩, ⟨fun h => absurd h hheld, fun h => nomatch h.1⟩⟩
    | false =>
      obtain ⟨hheld, hquiet⟩ := lineAfter_dominant hs
      exact ⟨⟨fun h => absurd h hquiet, fun h => nomatch h.1⟩, ⟨fun h => ⟨rfl, hheld.mp h⟩, fun h => hheld.mpr h.2⟩⟩

/-! ### A sample at every block -/

section
variable {s : State} {b : Level}

theorem lineEvents_of_none (h : noLineEvent s b) : s.lineEvents s.lm b = s := by
  obtain ⟨henters, hleaves, hlong⟩ := h
  simp only [State.lineEvents, henters, hleaves, hlong, Bool.false_eq_true, if_false, ite_self]

theorem takeSample_of_noEvent (h : noLineEvent s b) : s.takeSample b =
    (({ s with lm := s.lm.afterSample b } : State).onReadback b).receive (s.ownClosing b) b (s.lm.reportOn b) := by
  unfold State.takeSample
  dsimp only
  rw [lineEvents_of_none h, if_neg (by simp [h.1])]

/-- A sample that closes no frame is taken by the Frame Receiver alone (R25 to R27). -/
theorem receive_of_notClosed {r : Option RunReport} (h : s.fr.state = .seek ∨ r ≠ some .mark) (own : Bool) :
    s.receive own b r = { s with fr := (s.fr.sample b r).1 } := by
  have hevent : ∀ stuffDue crc content, (s.fr.sample b r).2 ≠ .closed stuffDue crc content := by
    intro stuffDue crc content
    unfold FrameReceiver.sample
    cases hst : s.fr.state with
    | seek =>
      cases r with
      | none => simp
      | some x => cases x <;> simp
    | gather =>
      cases r with
      | some x =>
        cases x with
        | mark => exact absurd rfl (h.resolve_left (by simp [hst]))
        | violation => simp
      | none =>
        simp only [FrameReceiver.gatherBit]
        split
        · simp
        · split
          · unfold FrameReceiver.release
            split
            · split <;> simp
            · split <;> simp
          · simp
  unfold State.receive
  dsimp only
  split
  · next hclosed => exact absurd hclosed (hevent _ _ _)
  · rfl

/-- The own frame is dispatched to no block (R33). -/
theorem receive_of_own (r : Option RunReport) : s.receive true b r = { s with fr := (s.fr.sample b r).1 } := by
  unfold State.receive State.onClosed
  dsimp only
  split
  · split <;> rfl
  · rfl

/-- The readback leaves the Frame Receiver alone. -/
theorem takeSample_of_plain (h : noLineEvent s b) (hclose : noClose s b) : s.takeSample b =
    { ({ s with lm := s.lm.afterSample b } : State).onReadback b with fr := (s.fr.sample b (s.lm.reportOn b)).1 } := by
  have hfr : (({ s with lm := s.lm.afterSample b } : State).onReadback b).fr = s.fr := by simp
  rw [takeSample_of_noEvent h, receive_of_notClosed (by rw [hfr]; exact hclose), hfr]

theorem readback_wait (h : s.tu.state = .wait) (b : Level) : s.tu.readback b = .idle := by simp only [TransmitUnit.readback, h]

theorem onReadback_wait (h : s.tu.state = .wait) (b : Level) : s.onReadback b = s := by
  simp only [State.onReadback, readback_wait h]

theorem readback_matched (h : s.tu.state = .contend ∨ (s.tu.state = .send ∧ s.tu.bits.length ≠ s.tu.lineBits + 1))
    (hlout : s.tu.lout = b) : s.tu.readback b = .matched := by
  rcases h with h | ⟨h, hlast⟩
  · simp only [TransmitUnit.readback, h, hlout, if_true]
  · have honLast : s.tu.onLastBit = false := decide_eq_false hlast
    simp only [TransmitUnit.readback, h, hlout, honLast, if_true, Bool.false_eq_true, if_false]

theorem onContentBit_iff {t : TransmitUnit} : t.onContentBit = true ↔ ∃ x, t.bits[t.lineBits]? = some x ∧ x.isContent = true := by
  unfold TransmitUnit.onContentBit
  cases t.bits[t.lineBits]? <;> simp

theorem onReadback_matched (h : s.tu.readback b = .matched) : s.onReadback b = { s with tu := s.tu.moveOn } := by
  simp only [State.onReadback, h]

theorem onReadback_breaking (h : s.tu.state = .breakoff) : s.onReadback b =
    { s with tu := { s.tu with breakoffBits := min 12 (s.tu.breakoffBits + 1) } } := by
  have hread : s.tu.readback b = .breaking := by simp only [TransmitUnit.readback, h]
  simp only [State.onReadback, hread, Config.breakoffLength]

theorem moveOn_eq (t : TransmitUnit) : t.moveOn =
    let count := if (∃ x, t.bits[t.lineBits]? = some x ∧ x.isContent = true) ∧ t.arbitrationBits < 7
      then t.arbitrationBits + 1 else t.arbitrationBits
    { t with lineBits := t.lineBits + 1, arbitrationBits := count, state := if count = 7 then .send else t.state } := by
  have hcount : (if t.onContentBit = true ∧ t.arbitrationBits < Config.arbitrationLength then t.arbitrationBits + 1
      else t.arbitrationBits) = if (∃ x, t.bits[t.lineBits]? = some x ∧ x.isContent = true) ∧ t.arbitrationBits < 7
      then t.arbitrationBits + 1 else t.arbitrationBits := if_congr (and_congr onContentBit_iff Iff.rfl) rfl rfl
  unfold TransmitUnit.moveOn
  rw [hcount]

/-- A sample outside an attempt that brings no line event and closes no frame. -/
theorem takeSample_of_idle (h : noLineEvent s b) (hclose : noClose s b) (hwait : s.tu.state = .wait) :
    s.takeSample b = { s with lm := s.lm.afterSample b, fr := (s.fr.sample b (s.lm.reportOn b)).1 } := by
  rw [takeSample_of_plain h hclose, onReadback_wait (s := { s with lm := s.lm.afterSample b }) hwait]

end

/-! ### Plain bits (O20) -/

section
variable {fr : FrameReceiver} {b : Level}

theorem sample_seek (h : fr.state = .seek) {r : Option RunReport} (hr : r ≠ some .mark) : (fr.sample b r).1 = fr := by
  unfold FrameReceiver.sample
  rw [h]
  cases r with
  | none => rfl
  | some x =>
    cases x with
    | mark => exact absurd rfl hr
    | violation => rfl

theorem sample_gather (h : fr.state = .gather) : fr.sample b none = fr.gatherBit b := by
  simp only [FrameReceiver.sample, h]

theorem gatherBit_short (h : fr.holdBack.length < 7) : (fr.gatherBit b).1 = { fr with holdBack := fr.holdBack ++ [b] } := by
  unfold FrameReceiver.gatherBit
  cases hbits : fr.holdBack ++ [b] with
  | nil => exact absurd hbits (by simp)
  | cons o rest =>
    have hlen : rest.length + 1 = fr.holdBack.length + 1 := by
      have := congrArg List.length hbits
      simpa using this.symm
    exact congrArg Prod.fst (if_neg (show ¬ 7 < rest.length + 1 by omega))

theorem gatherBit_full {o : Level} {rest : List Level} (h : fr.holdBack = o :: rest) (hrest : rest.length = 6) :
    fr.gatherBit b = { fr with holdBack := rest ++ [b] }.release o := by
  unfold FrameReceiver.gatherBit
  rw [h, List.cons_append]
  exact if_pos (show 7 < (rest ++ [b]).length + 1 by simp [hrest])

theorem release_stuffBit {o : Bool} (hdue : fr.stuffDue = true) (ho : o ≠ fr.runValue) :
    (fr.release o).1 = { fr with stuffDue := false, runValue := o, runCount := 1 } := by
  rw [FrameReceiver.release, if_pos hdue, if_neg ho]

theorem release_stuffError {o : Bool} (hdue : fr.stuffDue = true) (ho : o = fr.runValue) :
    fr.release o = (.reset, .stuffError) := by
  rw [FrameReceiver.release, if_pos hdue, if_pos ho]
  rfl

theorem release_overlength {o : Bool} (hdue : fr.stuffDue = false) (hfull : fr.content.length = 554) :
    (fr.release o).1 = .reset := by
  rw [FrameReceiver.release, if_neg (by simp [hdue]), if_pos hfull]
  rfl

theorem release_contentBit {o : Bool} (hdue : fr.stuffDue = false) (hroom : fr.content.length ≠ 554) :
    (fr.release o).1 = fr.appendContent o := by
  rw [FrameReceiver.release, if_neg (by simp [hdue]), if_neg hroom]

theorem appendContent_crc (l : List Bool) (crc : BitVec 16) :
    (if 16 ≤ l.length then crcStep crc (l.getD (l.length - 16) false) else crc) =
      if h : 16 ≤ l.length then crcStep crc l[l.length - 16] else crc := by
  by_cases h : 16 ≤ l.length
  · rw [if_pos h, dif_pos h, List.getD_eq_getElem l false (by omega)]
  · rw [if_neg h, dif_neg h]

end

/-- Settles O20. -/
theorem plainBits : Obligations.PlainBits := by
  unfold Obligations.PlainBits
  refine ⟨⟨fun s b hopen hwait hevent hseek hmark => ?_, fun s b hopen hwait hplain => ?_⟩, fun s b hopen hevent hclose => ?_⟩
  · rw [exec_lineSample_of_open hopen, takeSample_of_idle hevent (.inl hseek) hwait, sample_seek hseek hmark]
  · obtain ⟨henters, hleaves, hlong, hreport⟩ := hplain
    have hsample := takeSample_of_idle (s := s) (b := b) ⟨henters, hleaves, hlong⟩ (.inr (by simp [hreport])) hwait
    rw [exec_lineSample_of_open hopen, hsample, hreport]
    refine ⟨fun hgather hshort => ?_, fun o rest hgather hhold hrest => ?_⟩
    · rw [sample_gather hgather, gatherBit_short hshort]
    · rw [sample_gather hgather, gatherBit_full hhold hrest]
      refine ⟨fun hdue hne => ?_, fun hdue heq => ?_, fun hdue hfull => ?_, fun hdue hroom => ?_⟩
      · rw [release_stuffBit (fr := { s.fr with holdBack := rest ++ [b] }) hdue hne]
      · rw [release_stuffError (fr := { s.fr with holdBack := rest ++ [b] }) hdue heq]
      · rw [release_overlength (fr := { s.fr with holdBack := rest ++ [b] }) hdue hfull]
      · rw [release_contentBit (fr := { s.fr with holdBack := rest ++ [b] }) hdue hroom, ← appendContent_crc]
        rfl
  · refine ⟨fun hst hlout => ?_, fun hst => ?_⟩
    · rw [exec_lineSample_of_open hopen, takeSample_of_plain hevent hclose,
        onReadback_matched (s := { s with lm := s.lm.afterSample b }) (readback_matched hst hlout), moveOn_eq]
    · rw [exec_lineSample_of_open hopen, takeSample_of_plain hevent hclose,
        onReadback_breaking (s := { s with lm := s.lm.afterSample b }) hst]

end Sys2Proof.Machine
end

section
/-!
PROOFS. The rows that name what one sample brings about: lost contention, mismatch and SENT (O24, O26), violations and the opening mark
(O22), line events (O21), and start points (O29).
-/
namespace Sys2Proof.Machine

open Sys2Proof Sys2Proof.Safety

/-! ### The ends of an attempt at a sample (O24, O26) -/

section
variable {s : State} {b : Level}

theorem sampleIf_of_due {due : State → Bool} (h : bitOpen s) (hdue : due s = true) : s.sampleIf due b = s.takeSample b := by
  rw [State.sampleIf, atBit_of_open h.2, if_pos ⟨h.1, hdue⟩]

theorem readback_lost (hst : s.tu.state = .contend) (hlout : s.tu.lout = recessive) : s.tu.readback dominant = .lost := by
  have hne : recessive ≠ dominant := by decide
  simp only [TransmitUnit.readback, hst, hlout, if_neg hne, if_true]

theorem readback_mismatched (h : s.tu.state = .send ∨ (s.tu.state = .contend ∧ s.tu.lout = dominant)) :
    s.tu.readback (!s.tu.lout) = .mismatched := by
  have hne : s.tu.lout ≠ !s.tu.lout := by cases s.tu.lout <;> decide
  rcases h with h | ⟨h, hlout⟩
  · simp only [TransmitUnit.readback, h, if_neg hne]
  · simp only [TransmitUnit.readback, h, hlout]
    decide

theorem readback_finished (hst : s.tu.state = .send) (hlout : s.tu.lout = dominant) (hlast : s.tu.bits.length = s.tu.lineBits + 1) :
    s.tu.readback dominant = .finished := by
  have honLast : s.tu.onLastBit = true := decide_eq_true hlast
  simp only [TransmitUnit.readback, hst, hlout, honLast, if_true]

theorem onReadback_lost {x : TransmitBuffer} (h : s.tu.readback b = .lost) (hx : s.tu.buffer = some x) :
    s.onReadback b = ({ s with tu := waiting s.tu } : State).tellOwner x.owner false := by
  simp only [State.onReadback, h, State.attemptLost, hx, State.tellBuffer]
  rfl

theorem onReadback_mismatched (h : s.tu.readback b = .mismatched) :
    s.onReadback b = { s with tu := { s.tu with state := .breakoff, breakoffBits := 0 } } := by
  simp only [State.onReadback, h]

theorem onReadback_finished (h : s.tu.readback b = .finished) : s.onReadback b = s.attemptSent := by
  simp only [State.onReadback, h]

/-- SENT of a data frame, at its owner, and what it leaves of the attempt (R53). -/
theorem attemptSent_of_data {x : TransmitBuffer} {i : Position} (hx : s.tu.buffer = some x) (hi : x.position = some i) :
    s.attemptSent = ({ s with tu := { waiting s.tu with failures := 0, deferred := true, pointer := i + 1 } } : State).tellOwner
      x.owner true := by
  simp only [State.attemptSent, State.tellBuffer, TransmitUnit.afterSent, hx, Option.bind_some, hi]
  exact rfl

theorem attemptSent_of_control {x : TransmitBuffer} (hx : s.tu.buffer = some x) (hi : x.position = none) :
    s.attemptSent = ({ s with tu := { waiting s.tu with failures := 0 } } : State).tellOwner x.owner true := by
  simp only [State.attemptSent, State.tellBuffer, TransmitUnit.afterSent, hx, Option.bind_some, hi]
  exact rfl

theorem noLineEvent_of_short (hs : lineConsistent s) (hrun : s.lm.runLength < 31) (hline : s.lm.line ≠ .held) :
    noLineEvent s dominant := by
  refine ⟨decide_eq_false ?_, decide_eq_false fun h => hline h.1, decide_eq_false fun h => nomatch h.1⟩
  rintro ⟨-, hheld⟩
  have hfull := (lineAfter_dominant hs).1.mp hheld
  by_cases hp : s.lm.polarity = some dominant
  · rw [LineMonitor.runAfter_of_same hp] at hfull
    omega
  · rw [LineMonitor.runAfter_of_new hp] at hfull
    omega

/-- The sample of the last bit of the own frame (R33, R53). -/
theorem takeSample_of_finished (hevent : noLineEvent s b) (h : s.tu.readback b = .finished) : s.takeSample b =
    { ({ s with lm := s.lm.afterSample b } : State).attemptSent with fr := (s.fr.sample b (s.lm.reportOn b)).1 } := by
  have hown : s.ownClosing b = true := decide_eq_true h
  have hfr : ({ s with lm := s.lm.afterSample b } : State).attemptSent.fr = s.fr := by simp
  rw [takeSample_of_noEvent hevent, onReadback_finished (s := { s with lm := s.lm.afterSample b }) h, hown, receive_of_own, hfr]

end

/-- Settles O24. -/
theorem contentionAndMismatch : Obligations.ContentionAndMismatch := by
  refine ⟨fun s x hopen hevent hclose hst hlout hx => ?_, fun s hopen hevent hclose hst => ?_⟩
  · have hread := readback_lost hst hlout
    have hexec : exec .lostContention s = .next (s.takeSample dominant) :=
      congrArg Host.Outcome.next (sampleIf_of_due hopen (decide_eq_true hread))
    refine ⟨?_, (exec_lineSample_of_open hopen dominant).trans hexec.symm⟩
    rw [hexec, takeSample_of_plain hevent hclose, onReadback_lost (s := { s with lm := s.lm.afterSample dominant }) hread hx]
  · have hread := readback_mismatched hst
    have hexec : exec .mismatch s = .next (s.takeSample (!s.tu.lout)) := by
      show Host.Outcome.next (s.sampleIf _ (!s.atBit.tu.lout)) = _
      rw [atBit_of_open hopen.2, sampleIf_of_due hopen (decide_eq_true hread)]
    refine ⟨?_, (exec_lineSample_of_open hopen _).trans hexec.symm⟩
    rw [hexec, takeSample_of_plain hevent hclose, onReadback_mismatched (s := { s with lm := s.lm.afterSample (!s.tu.lout) }) hread]

/-- Settles O26. -/
theorem sent : Obligations.Sent := by
  intro s x hopen hs hrun hst hlout hlast hx hline
  have hread := readback_finished hst hlout hlast
  have hexec : exec .sent s = .next (s.takeSample dominant) :=
    congrArg Host.Outcome.next (sampleIf_of_due hopen (decide_eq_true hread))
  rw [hexec, takeSample_of_finished (noLineEvent_of_short hs hrun hline) hread]
  cases hi : x.position with
  | some i =>
    exact congrArg (fun t : State => Host.Outcome.next { t with fr := (s.fr.sample dominant (s.lm.reportOn dominant)).1 })
      (attemptSent_of_data (s := { s with lm := s.lm.afterSample dominant }) hx hi)
  | none =>
    exact congrArg (fun t : State => Host.Outcome.next { t with fr := (s.fr.sample dominant (s.lm.reportOn dominant)).1 })
      (attemptSent_of_control (s := { s with lm := s.lm.afterSample dominant }) hx hi)

/-! ### Violations and the opening mark (O22) -/

section
variable {s : State} {b : Level}

/-- A sample that discards the frame, by its report or by a stuff error (R26, R27). -/
theorem sample_of_discard (hgather : s.fr.state = .gather)
    (h : (b = dominant ∧ s.lm.polarity = some dominant ∧ s.lm.runLength = 4) ∨
       (b = recessive ∧ s.lm.polarity = some recessive ∧ s.lm.runLength = 6) ∨
       (b = dominant ∧ s.lm.polarity = some recessive ∧ (s.lm.runLength = 5 ∨ (s.lm.runLength = 6 ∧ s.lm.firstRun = true))) ∨
       (s.lm.reportOn b = none ∧ s.fr.stuffDue = true ∧ ∃ rest, s.fr.holdBack = s.fr.runValue :: rest ∧ rest.length = 6)) :
    s.lm.reportOn b ≠ some .mark ∧ (s.fr.sample b (s.lm.reportOn b)).1 = .reset ∧ s.violates b = true := by
  have hviolation : s.lm.reportOn b = some .violation →
      s.lm.reportOn b ≠ some .mark ∧ (s.fr.sample b (s.lm.reportOn b)).1 = .reset ∧ s.violates b = true := fun hreport => by
    have hsample : s.fr.sample b (s.lm.reportOn b) = (.reset, .violation) := by
      simp only [hreport, FrameReceiver.sample, hgather, FrameReceiver.seeking]
    exact ⟨by simp [hreport], by rw [hsample], by rw [State.violates, hsample]⟩
  rcases h with ⟨rfl, hp, hrun⟩ | ⟨rfl, hp, hrun⟩ | ⟨rfl, hp, hrun⟩ | ⟨hreport, hdue, rest, hhold, hrest⟩
  · exact hviolation (by simp [LineMonitor.reportOn, hp, hrun])
  · refine hviolation ?_
    have hne : ¬ recessive = dominant := by decide
    simp [LineMonitor.reportOn, hp, hrun, hne]
  · refine hviolation ?_
    have hne : ¬ recessive = dominant := by decide
    rcases hrun with hrun | ⟨hrun, hfirst⟩
    · simp [LineMonitor.reportOn, hp, hrun, hne]
    · simp [LineMonitor.reportOn, hp, hrun, hfirst, hne]
  · have hsample : s.fr.sample b (s.lm.reportOn b) = (.reset, .stuffError) := by
      rw [hreport, sample_gather hgather, gatherBit_full hhold hrest]
      exact release_stuffError (fr := { s.fr with holdBack := rest ++ [b] }) hdue rfl
    exact ⟨by simp [hreport], by rw [hsample], by rw [State.violates, hsample]⟩

/-- Whatever the attempt and the line make of the sample, a discard leaves the Frame Receiver in SEEK. -/
theorem takeSample_fr_of_discard (hgather : s.fr.state = .gather) (hmark : s.lm.reportOn b ≠ some .mark)
    (hreset : (s.fr.sample b (s.lm.reportOn b)).1 = .reset) : (s.takeSample b).fr = .reset := by
  unfold State.takeSample
  dsimp only
  rw [receive_of_notClosed (.inr hmark)]
  split
  · have hfr : (({ s.lineEvents s.lm b with lm := s.lm.afterSample b } : State).onReadback b).onHeld.fr = .reset := by
      rw [State.onHeld]
      simp [FrameReceiver.onHeld, hgather]
      rfl
    rw [hfr]
    exact sample_seek rfl hmark
  · simpa using hreset

end

section
variable {s : State}

/-- With a short run the line is neither QUIET nor HELD (R12). -/
theorem line_of_short (hs : lineConsistent s) (hrun : s.lm.runLength < 10) : s.lm.line = .active := by
  obtain ⟨-, -, hquiet, hq, hheld⟩ := hs
  cases hl : s.lm.line with
  | active => rfl
  | quiet =>
    have hlong := hq.mp hl
    rw [hquiet] at hlong
    split at hlong <;> omega
  | held =>
    have hfull := (hheld.mp hl).2
    omega

/-- The last sample of a mark: a dominant one after six recessive ones (R11). -/
theorem report_of_mark (hp : s.lm.polarity = some recessive) (hrun : s.lm.runLength = 6) (hfirst : s.lm.firstRun = false) :
    s.lm.reportOn dominant = some .mark := by
  have hne : ¬ recessive = dominant := by decide
  simp [LineMonitor.reportOn, hp, hrun, hfirst, hne]

theorem afterSample_of_mark (hs : lineConsistent s) (hp : s.lm.polarity = some recessive) (hrun : s.lm.runLength = 6) :
    s.lm.afterSample dominant = .atMark := by
  have hne : s.lm.polarity ≠ some dominant := by rw [hp]; decide
  have hone : s.lm.runAfter dominant = 1 := LineMonitor.runAfter_of_new hne
  have hactive : s.lm.lineAfter dominant = .active := by
    have hline := line_of_short hs (show s.lm.runLength < 10 by omega)
    unfold LineMonitor.lineAfter
    rw [hline]
    exact if_neg (by rw [show s.lm.runAfter false = 1 from hone]; decide)
  have hnone : ¬ (s.lm.polarity = none ∨ s.lm.polarity = some dominant) := fun h => h.elim (by simp [hp]) hne
  rw [LineMonitor.afterSample, hactive, hone, if_neg hnone]
  rfl

theorem noLineEvent_of_mark (hs : lineConsistent s) (hrun : s.lm.runLength = 6) : noLineEvent s dominant :=
  noLineEvent_of_short hs (by omega) (by rw [line_of_short hs (by omega)]; decide)

/-- On an ACTIVE line with a short run no sample is a line event (R14, R15). -/
theorem noLineEvent_of_active (hs : lineConsistent s) (hline : s.lm.line = .active) (hrun : s.lm.runLength < 9) (b : Level) :
    noLineEvent s b := by
  refine ⟨decide_eq_false ?_, decide_eq_false fun h => by simp [hline] at h, decide_eq_false ?_⟩
  · rintro ⟨-, hheld⟩
    cases b with
    | true => exact (lineAfter_recessive hs).2 hheld
    | false =>
      have hshort := (noLineEvent_of_short hs (by omega) (by rw [hline]; decide)).1
      have hnot : s.lm.line ≠ .held := by rw [hline]; decide
      exact of_decide_eq_false hshort ⟨hnot, hheld⟩
  · rintro ⟨-, -, hlong⟩
    have hrun24 : s.lm.runLength + 1 = 24 := hlong
    omega

end

/-- Settles O22. -/
theorem violationAndMark : Obligations.ViolationAndMark := by
  refine ⟨fun s b hopen hs hgather hdiscard => ?_, fun s hopen hs hseek hp hrun hfirst => ?_⟩
  · obtain ⟨hmark, hreset, hviolates⟩ := sample_of_discard hgather hdiscard
    refine ⟨s.takeSample b, congrArg Host.Outcome.next (sampleIf_of_due hopen hviolates),
      takeSample_fr_of_discard hgather hmark hreset, State.takeSample_lm s b, fun hwait hline hshort => ?_⟩
    rw [takeSample_of_idle (noLineEvent_of_active hs hline hshort b) (.inr hmark) hwait, hreset]
  · have hmark := report_of_mark hp hrun hfirst
    have hevent := noLineEvent_of_mark hs hrun
    have hdue : decide (s.fr.state = .seek ∧ s.lm.reportOn dominant = some .mark) = true := decide_eq_true ⟨hseek, hmark⟩
    have hprepared : (s.fr.sample dominant (s.lm.reportOn dominant)).1 = .prepared := by
      rw [hmark]
      simp only [FrameReceiver.sample, hseek]
    refine ⟨s.takeSample dominant, congrArg Host.Outcome.next (sampleIf_of_due hopen hdue), ?_, ?_, fun hwait => ?_⟩
    · rw [takeSample_of_plain hevent (.inl hseek), hprepared]
      rfl
    · rw [State.takeSample_lm, afterSample_of_mark hs hp hrun]
      rfl
    · rw [takeSample_of_idle hevent (.inl hseek) hwait]

/-! ### The line falls QUIET, is HELD, and is released (O21) -/

section
variable {s : State} {b : Level}

/-- The notice of a line change, which a DETACHED station does not raise (R16). -/
def State.noticed (s : State) (n : NoticeKind) : List ReportEntry :=
  if s.mu.station = .detached then s.report else reportWithNotice s.report n none

theorem lineEvents_of_held (henters : s.lm.entersHeld b = true) (hlong : s.lm.longQuietOn b = false) :
    s.lineEvents s.lm b = { s with report := s.noticed .lineHeld } := by
  unfold State.noticed
  simp only [State.lineEvents, henters, hlong, Bool.false_eq_true, if_false, if_true]
  split <;> rfl

theorem lineEvents_of_released (henters : s.lm.entersHeld b = false) (hleaves : s.lm.leavesHeld b = true)
    (hlong : s.lm.longQuietOn b = false) : s.lineEvents s.lm b = { s with report := s.noticed .lineReleased } := by
  unfold State.noticed
  simp only [State.lineEvents, henters, hleaves, hlong, Bool.false_eq_true, if_false, if_true]
  split <;> rfl

theorem lineEvents_of_longQuiet (henters : s.lm.entersHeld b = false) (hleaves : s.lm.leavesHeld b = false)
    (hlong : s.lm.longQuietOn b = true) : s.lineEvents s.lm b = { s with tu := { s.tu with deferred := false } } := by
  simp only [State.lineEvents, henters, hleaves, hlong, Bool.false_eq_true, if_false, if_true, ite_self]

/-- A sample outside an attempt, in SEEK, that completes no mark: the line events and the Line Monitor's record. -/
theorem takeSample_of_quiet (henters : s.lm.entersHeld b = false) (hwait : s.tu.state = .wait) (hseek : s.fr.state = .seek)
    (hmark : s.lm.reportOn b ≠ some .mark) : s.takeSample b = { s.lineEvents s.lm b with lm := s.lm.afterSample b } := by
  have hstate : (s.lineEvents s.lm b).tu.state = .wait := by
    unfold State.lineEvents
    repeat' split
    all_goals exact hwait
  have hfr : (s.lineEvents s.lm b).fr = s.fr := by simp
  unfold State.takeSample
  dsimp only
  rw [if_neg (by simp [henters]), onReadback_wait (s := { s.lineEvents s.lm b with lm := s.lm.afterSample b }) hstate,
    receive_of_notClosed (.inr hmark)]
  dsimp only
  rw [hfr, sample_seek hseek hmark, ← hfr]

theorem recessive_noEvent (hs : lineConsistent s) (hp : s.lm.polarity = some recessive) :
    s.lm.entersHeld recessive = false ∧ s.lm.leavesHeld recessive = false := by
  have hnot := (lineAfter_recessive hs).2
  obtain ⟨-, -, -, -, hheld⟩ := hs
  refine ⟨decide_eq_false fun h => hnot h.2, decide_eq_false fun h => ?_⟩
  obtain ⟨hdominant, -⟩ := hheld.mp h.1
  rw [hp] at hdominant
  cases hdominant

theorem report_recessive (s : State) : s.lm.reportOn recessive ≠ some .mark := by
  have hne : ¬ recessive = dominant := by decide
  unfold LineMonitor.reportOn
  split
  · simp only [hne, false_and, if_false]
    split <;> simp
  · simp only [hne, false_and, if_false]
    simp

end

section
variable {s : State}

theorem afterSample_recessive (hs : lineConsistent s) (hp : s.lm.polarity = some recessive) (hrun : s.lm.runLength < 31)
    (hquiet : 9 ≤ s.lm.runLength) : s.lm.afterSample recessive =
      { s.lm with line := .quiet, runLength := s.lm.runLength + 1, quietRun := s.lm.runLength + 1, sampled := true } := by
  have hafter : s.lm.runAfter recessive = s.lm.runLength + 1 := by
    rw [LineMonitor.runAfter_of_same hp]
    omega
  have hline : s.lm.lineAfter recessive = .quiet := (lineAfter_recessive hs).1.mpr (by omega)
  rw [LineMonitor.afterSample, hafter, hline, if_pos (.inr hp), if_pos rfl, ← hp]

theorem report_of_longRun (hp : s.lm.polarity = some dominant) (hrun : 5 ≤ s.lm.runLength) : s.lm.reportOn dominant = none := by
  have hne : ¬ s.lm.runLength + 1 = Config.dominantLimit := fun h => by
    have hfive : s.lm.runLength + 1 = 5 := h
    omega
  have hdiff : ¬ dominant = recessive := by decide
  simp only [LineMonitor.reportOn, hp, if_true, hne, and_false, if_false, hdiff, false_and]

/-- The 32nd dominant sample (R15). -/
theorem held_of_full (hs : lineConsistent s) (hp : s.lm.polarity = some dominant) (hrun : s.lm.runLength = 31) :
    s.lm.entersHeld dominant = true ∧ s.lm.afterSample dominant =
      { s.lm with line := .held, runLength := 32, quietRun := 0, sampled := true } := by
  have hafter : s.lm.runAfter dominant = 32 := by
    rw [LineMonitor.runAfter_of_same hp, hrun]
    rfl
  have hline : s.lm.lineAfter dominant = .held := (lineAfter_dominant hs).1.mpr hafter
  obtain ⟨-, -, -, -, hheld⟩ := hs
  have hnot : s.lm.line ≠ .held := fun h => by
    obtain ⟨-, hfull⟩ := hheld.mp h
    omega
  have hne : ¬ dominant = recessive := by decide
  refine ⟨decide_eq_true ⟨hnot, hline⟩, ?_⟩
  rw [LineMonitor.afterSample, hafter, hline, if_pos (.inr hp), if_neg hne, ← hp]

/-- The state at the 32nd dominant sample, before the Transmit Unit takes the held event. -/
def State.heldLine (s : State) : State :=
  { s with lm := { s.lm with line := .held, runLength := 32, quietRun := 0, sampled := true }
           fr := s.fr.onHeld
           report := s.noticed .lineHeld }

theorem onHeld_fr (fr : FrameReceiver) : fr.onHeld = if fr.state = .gather then .reset else fr := by
  unfold FrameReceiver.onHeld
  cases hst : fr.state <;> rfl

theorem onHeld_seek (fr : FrameReceiver) : fr.onHeld.state = .seek := by
  unfold FrameReceiver.onHeld
  cases hst : fr.state
  · exact hst
  · rfl

/-- A FAILED attempt leaves nothing of where it stood (R50). -/
theorem attemptFailed_congr {u : TransmitUnit} (hafter : u.afterFailed = s.tu.afterFailed) (hbuffer : u.buffer = s.tu.buffer) :
    ({ s with tu := u } : State).attemptFailed = s.attemptFailed := by
  unfold State.attemptFailed
  simp only [hafter, hbuffer]

/-- The sample that makes the line HELD, for a readback that only moves the Transmit Unit (R15, R51). -/
theorem takeSample_of_held (hs : lineConsistent s) (hp : s.lm.polarity = some dominant) (hrun : s.lm.runLength = 31)
    {u : TransmitUnit}
    (hread : ∀ v : State, v.tu = s.tu → v.onReadback dominant = { v with tu := u }) :
    s.takeSample dominant = ({ s.heldLine with tu := u } : State).tuHeld := by
  obtain ⟨henters, hafter⟩ := held_of_full hs hp hrun
  have hreport := report_of_longRun hp (by omega)
  have hlong : s.lm.longQuietOn dominant = false := decide_eq_false fun h => nomatch h.1
  unfold State.takeSample
  dsimp only
  rw [lineEvents_of_held henters hlong, if_pos henters, hreport, hafter,
    hread { s with lm := { s.lm with line := .held, runLength := 32, quietRun := 0, sampled := true }
                   report := s.noticed .lineHeld } rfl, State.onHeld]
  have hfr : ({ s.heldLine with tu := u } : State).tuHeld.fr = s.fr.onHeld := by simp [State.heldLine]
  have hseek : ({ s.heldLine with tu := u } : State).tuHeld.fr.state = .seek := by rw [hfr]; exact onHeld_seek s.fr
  have hresult : ∀ own, ({ s.heldLine with tu := u } : State).tuHeld.receive own dominant none =
      ({ s.heldLine with tu := u } : State).tuHeld := fun own => by
    rw [receive_of_notClosed (.inl hseek), sample_seek hseek (by simp)]
  exact hresult _

theorem heldLine_eq (s : State) : s.heldLine = { s with
    lm := { s.lm with line := .held, runLength := 32, quietRun := 0, sampled := true }
    fr := if s.fr.state = .gather then .reset else s.fr
    report := s.noticed .lineHeld } := by
  rw [State.heldLine, onHeld_fr]

theorem moveOn_state {t : TransmitUnit} (h : t.state ≠ .wait) : t.moveOn.state ≠ .wait := by
  rw [moveOn_eq]
  intro hwait
  rcases ite_eq_iff.mp hwait with ⟨-, hsend⟩ | ⟨-, hstate⟩
  · cases hsend
  · exact h hstate

/-- The first recessive sample after HELD (R15). -/
theorem released_of_held (hs : lineConsistent s) (hp : s.lm.polarity = some dominant) (hrun : s.lm.runLength = 32) :
    s.lm.leavesHeld recessive = true ∧ s.lm.afterSample recessive =
      { line := .active, polarity := some recessive, runLength := 1, firstRun := false, quietRun := 1, sampled := true } := by
  obtain ⟨-, -, -, -, hheld⟩ := hs
  have hline : s.lm.line = .held := hheld.mpr ⟨hp, hrun⟩
  have hne : s.lm.polarity ≠ some recessive := by rw [hp]; decide
  have hone : s.lm.runAfter recessive = 1 := LineMonitor.runAfter_of_new hne
  have hactive : s.lm.lineAfter recessive = .active := by
    unfold LineMonitor.lineAfter
    rw [hline]
  have hnone : ¬ (s.lm.polarity = none ∨ s.lm.polarity = some recessive) := fun h => h.elim (by simp [hp]) hne
  refine ⟨decide_eq_true ⟨hline, by rw [hactive]; decide⟩, ?_⟩
  rw [LineMonitor.afterSample, hactive, hone, if_neg hnone, if_pos rfl]

end

/-- Settles O21. -/
theorem quietAndHeldLine : Obligations.QuietAndHeldLine := by
  unfold Obligations.QuietAndHeldLine
  refine ⟨fun s hopen hs hp => ⟨fun hrun => ?_, fun hrun => ?_⟩, fun s hopen hs hp => ⟨fun hrun hwait => ?_, fun hrun hst => ?_,
    fun hrun hwait hseek => ?_⟩⟩
  · obtain ⟨henters, hleaves⟩ := recessive_noEvent hs hp
    have hafter := afterSample_recessive hs hp (by omega) (by omega)
    have hlong : s.lm.longQuietOn recessive = false := decide_eq_false fun h => by
      have h24 : s.lm.runLength + 1 = 24 := h.2.2
      omega
    have hdue : s.lm.entersQuiet recessive = true := decide_eq_true ⟨fun h => by
      obtain ⟨-, -, hquiet, hq, -⟩ := hs
      have hten := hq.mp h
      rw [hquiet, if_pos hp] at hten
      omega, by rw [show s.lm.lineAfter recessive = (s.lm.afterSample recessive).line from rfl, hafter]⟩
    refine ⟨s.takeSample recessive, congrArg Host.Outcome.next (sampleIf_of_due hopen hdue), ?_, fun hwait hseek => ?_⟩
    · rw [State.takeSample_lm, hafter, hrun]
    · rw [takeSample_of_quiet henters hwait hseek (report_recessive s), lineEvents_of_none ⟨henters, hleaves, hlong⟩]
  · obtain ⟨henters, hleaves⟩ := recessive_noEvent hs hp
    have hafter := afterSample_recessive hs hp (by omega) (by omega)
    have hlong : s.lm.longQuietOn recessive = true := decide_eq_true ⟨rfl, hp, by rw [hrun]⟩
    have hline : s.lm.line = .quiet := by
      obtain ⟨-, -, hquiet, hq, -⟩ := hs
      rw [hq, hquiet, if_pos hp]
      omega
    refine ⟨s.takeSample recessive, congrArg Host.Outcome.next (sampleIf_of_due hopen hlong), ?_, fun hwait hseek => ?_⟩
    · rw [State.takeSample_lm, hafter, hrun, ← hline]
    · rw [takeSample_of_quiet henters hwait hseek (report_recessive s), lineEvents_of_longQuiet henters hleaves hlong]
  · obtain ⟨henters, -⟩ := held_of_full hs hp hrun
    have hexec : exec .lineHeld s = .next (s.takeSample dominant) :=
      congrArg Host.Outcome.next (sampleIf_of_due hopen henters)
    rw [hexec, takeSample_of_held hs hp hrun (u := s.tu) fun v hv => by
      rw [onReadback_wait (by rw [hv]; exact hwait), ← hv]]
    exact congrArg Host.Outcome.next ((if_pos hwait).trans (heldLine_eq s))
  · obtain ⟨henters, -⟩ := held_of_full hs hp hrun
    have hexec : exec .lineHeld s = .next (s.takeSample dominant) :=
      congrArg Host.Outcome.next (sampleIf_of_due hopen henters)
    rw [hexec]
    refine congrArg Host.Outcome.next (Eq.trans ?_ (congrArg State.attemptFailed (heldLine_eq s)))
    rcases hst with hst | ⟨hlout, hst⟩
    · rw [takeSample_of_held hs hp hrun (u := { s.tu with breakoffBits := min 12 (s.tu.breakoffBits + 1) }) fun v hv => by
        rw [onReadback_breaking (by rw [hv]; exact hst), hv]]
      exact (if_neg (by simp [hst])).trans (attemptFailed_congr (s := s.heldLine) rfl rfl)
    · rw [takeSample_of_held hs hp hrun (u := s.tu.moveOn) fun v hv => by
        rw [onReadback_matched (by rw [hv]; exact readback_matched hst hlout), hv]]
      have hgoes : s.tu.moveOn.state ≠ .wait :=
        moveOn_state (by rcases hst with hst | ⟨hst, -⟩ <;> simp [hst])
      exact (if_neg hgoes).trans (attemptFailed_congr (s := s.heldLine) rfl rfl)
  · obtain ⟨hleaves, hafter⟩ := released_of_held hs hp hrun
    have henters : s.lm.entersHeld recessive = false := decide_eq_false fun h => (lineAfter_recessive hs).2 h.2
    have hlong : s.lm.longQuietOn recessive = false := decide_eq_false fun h => by
      have hpolarity := h.2.1
      rw [hp] at hpolarity
      cases hpolarity
    have hexec : exec .lineReleased s = .next (s.takeSample recessive) :=
      congrArg Host.Outcome.next (sampleIf_of_due hopen hleaves)
    rw [hexec, takeSample_of_quiet henters hwait hseek (report_recessive s), lineEvents_of_released henters hleaves hlong, hafter]
    rfl

end Sys2Proof.Machine
end

section
/-!
PROOFS. Start points (O29), and the frame that closes at a sample (O23): what the closing checks accept, and what a closed frame does.
-/
namespace Sys2Proof.Machine

open Sys2Proof Sys2Proof.Safety

/-! ### Start points (O29) -/

section
variable {s : State}

theorem exec_startPoint (hreset : s.inReset = false) (hsampled : s.lm.sampled = true) (hquiet : 10 ≤ s.lm.quietRun) :
    exec .startPoint s = .next s.boundary := by
  have hdue : s.inReset = false ∧ s.lm.sampled = true ∧ s.startPointNext = true := ⟨hreset, hsampled, decide_eq_true hquiet⟩
  exact congrArg Host.Outcome.next (if_pos hdue)

theorem choice_nextBit (s : State) : s.nextBit.choice = s.choice := rfl

/-- A start point in WAIT takes the candidate there is (R41). -/
theorem boundary_of_wait (hquiet : 10 ≤ s.lm.quietRun) (hwait : s.tu.state = .wait) : s.boundary = s.nextBit.atStartPoint := by
  have hover : ¬ s.breakoffOver = true := by simp [State.breakoffOver, hwait]
  have hstart : s.startPointNext = true := decide_eq_true hquiet
  rw [State.boundary, if_neg hover, if_pos hstart]

theorem atStartPoint_of_choice {o : Offer} (hwait : s.tu.state = .wait) (ho : s.choice = some o) :
    s.nextBit.atStartPoint = s.nextBit.startAttempt o := by
  have hnext : s.nextBit.tu.state = .wait := hwait
  simp only [State.atStartPoint, if_pos hnext, choice_nextBit, ho]

theorem atStartPoint_of_none (hwait : s.tu.state = .wait) (hnone : s.choice = none) : s.nextBit.atStartPoint = s.nextBit := by
  have hnext : s.nextBit.tu.state = .wait := hwait
  simp only [State.atStartPoint, if_pos hnext, choice_nextBit, hnone]

theorem markOldest_first {front back : List AnswerEntry} {e : AnswerEntry} (hfront : ∀ f ∈ front, f.onLine = true)
    (he : e.onLine = false) : markOldest (front ++ e :: back) = front ++ { e with onLine := true } :: back := by
  induction front with
  | nil => exact if_neg (by simp [he])
  | cons f front ih =>
    rw [List.cons_append, markOldest, if_pos (hfront f List.mem_cons_self), ih fun g hg => hfront g (List.mem_cons_of_mem _ hg)]
    rfl

end

/-- Settles O29. -/
theorem startPoint : Obligations.StartPoint := by
  unfold Obligations.StartPoint
  refine ⟨fun s hreset hsampled hquiet hst => ⟨fun hbreak => ?_, fun hbreakoff hbits => ?_, fun hbreakoff hbits => ?_⟩,
    fun s hreset hsampled hquiet hwait => ⟨fun hnone => ?_, fun o ho => ?_⟩⟩
  · rw [exec_startPoint hreset hsampled hquiet, boundary_of_plain (.inr hst) hbreak]
    rfl
  · have hlevel : s.tu.nextLevel = dominant := by simp only [TransmitUnit.nextLevel, hbreakoff]
    rw [exec_startPoint hreset hsampled hquiet, boundary_of_plain (.inr hst) (.inr hbits), State.nextBit, hlevel]
  · have hover : s.breakoffOver = true := decide_eq_true ⟨hbreakoff, hbits⟩
    rw [exec_startPoint hreset hsampled hquiet, exec_breakoffEnd hreset hsampled hbreakoff hbits, State.boundary, if_pos hover]
  · have hlevel : s.tu.nextLevel = recessive := by simp only [TransmitUnit.nextLevel, hwait]
    rw [exec_startPoint hreset hsampled hquiet, boundary_of_wait hquiet hwait, atStartPoint_of_none hwait hnone,
      State.nextBit, hlevel]
  · have hexec : exec .startPoint s = .next (s.nextBit.startAttempt o) := by
      rw [exec_startPoint hreset hsampled hquiet, boundary_of_wait hquiet hwait, atStartPoint_of_choice hwait ho]
    rw [hexec]
    refine ⟨fun front back e howner hanswers he hfront => ?_, fun j howner => ?_, fun p t howner ht => ?_,
      fun p q howner hentering => ?_, fun p q t w rest c howner hentering ht hwaiting hc => ?_, fun k q howner => ?_⟩
    · have hput : s.nextBit.putOnLine o = { s.nextBit with answers := front ++ { e with onLine := true } :: back } := by
        simp only [State.putOnLine, howner]
        rw [show s.nextBit.answers = front ++ e :: back from hanswers, markOldest_first hfront he]
      rw [State.startAttempt, hput]
      rfl
    · have hput : s.nextBit.putOnLine o = { s.nextBit with
          mu := { s.mu with rollOnLine := if s.mu.station = .leaving then .part else .ordinary } } := by
        simp only [State.putOnLine, howner]
        rfl
      rw [State.startAttempt, hput]
      rfl
    · have htx : s.nextBit.tx p = some t := ht
      have hput : s.nextBit.putOnLine o = s.nextBit.withTx p (some { t with openOnLine := true, answerTimer := none }) := by
        simp only [State.putOnLine, howner, htx]
      rw [State.startAttempt, hput]
      rfl
    · have hput : s.nextBit.putOnLine o = s.nextBit := by
        simp only [State.putOnLine, howner, hentering, Bool.false_eq_true, if_false]
      rw [State.startAttempt, hput]
      rfl
    · have htx : s.nextBit.tx p = some t := ht
      have hslot : s.nextBit.slot w.slot = .waiting c := hc
      have hput : s.nextBit.putOnLine o = s.nextBit.enterWindow p := by
        simp only [State.putOnLine, howner, hentering, if_true]
      rw [State.startAttempt, hput]
      simp only [State.enterWindow, htx, hwaiting, State.toInFlight_of_waiting hslot]
      rfl
    · have hput : s.nextBit.putOnLine o = s.nextBit := by simp only [State.putOnLine, howner]
      rw [State.startAttempt, hput]
      rfl

/-! ### What the closing checks accept (R29 to R31) -/

theorem stationDst_of_stationOf {d : Fin 64} {p : StationId} (h : stationOf d = some p) : stationDst p = d := by
  unfold stationOf at h
  split at h
  · cases h
    rfl
  · cases h

theorem groupDst_of_groupOf {d : Fin 64} {g : GroupId} (h : groupOf d = some g) : groupDst g = d := by
  unfold groupOf at h
  split at h
  · next hrange =>
    cases h
    exact Fin.ext (show 32 + (d.val - 32) = d.val by omega)
  · cases h

theorem dataClass_of_urgentOf {c : Fin 4} {u : Bool} (h : urgentOf c = some u) : dataClass u = c := by
  unfold urgentOf at h
  split at h
  · next hc =>
    cases h
    exact hc.symm
  · split at h
    · next hc =>
      cases h
      exact hc.symm
    · cases h

theorem toNat_of_subjectOf {n : Nat} {x : Subject} (h : subjectOf n = some x) : x.toNat = n := by
  unfold subjectOf at h
  split at h <;> cases h <;> rfl

theorem toNat_of_answerCodeOf {n : Nat} {x : AnswerCode} (h : answerCodeOf n = some x) : x.toNat = n := by
  unfold answerCodeOf at h
  split at h <;> cases h <;> rfl

/-- The payload byte of an ANSWER is read back nibble by nibble (Table 11-2). -/
theorem answerByte_of_read {b : Byte} {subject : Subject} {code : AnswerCode} (hsubject : subjectOf (b.toNat / 16) = some subject)
    (hcode : answerCodeOf (b.toNat % 16) = some code) : answerByte subject code = b := by
  rw [answerByte, toNat_of_subjectOf hsubject, toNat_of_answerCodeOf hcode, Nat.div_add_mod]
  simp

theorem Frame.ext_fields {f g : Frame} (hcls : f.cls = g.cls) (hsrc : f.src = g.src) (hdst : f.dst = g.dst) (hkind : f.kind = g.kind)
    (hseq : f.seq = g.seq) (hpayload : f.payload = g.payload) : f = g := by
  cases f
  cases g
  simp_all

theorem toFrame_of_read {f : Frame} {m : Msg} (h : f.read = some m) : m.toFrame = f := by
  unfold Frame.read at h
  split at h
  · next hkind =>
    obtain ⟨u, hu, h⟩ := Option.bind_eq_some_iff.mp h
    obtain ⟨d, hd, h⟩ := Option.bind_eq_some_iff.mp h
    cases h
    exact Frame.ext_fields (dataClass_of_urgentOf hu) rfl (stationDst_of_stationOf hd) (Fin.ext hkind.symm) rfl rfl
  · next hkind =>
    obtain ⟨u, hu, h⟩ := Option.bind_eq_some_iff.mp h
    obtain ⟨g, hg, h⟩ := Option.bind_eq_some_iff.mp h
    cases h
    exact Frame.ext_fields (dataClass_of_urgentOf hu) rfl (groupDst_of_groupOf hg) (Fin.ext hkind.symm) rfl rfl
  · next hkind =>
    split at h
    · next b hpayload =>
      dsimp only at h
      split at h
      · next hcls =>
        obtain ⟨d, hd, h⟩ := Option.bind_eq_some_iff.mp h
        obtain ⟨subject, hsubject, h⟩ := Option.bind_eq_some_iff.mp h
        obtain ⟨code, hcode, h⟩ := Option.bind_eq_some_iff.mp h
        cases h
        refine Frame.ext_fields hcls.symm rfl (stationDst_of_stationOf hd) (Fin.ext hkind.symm) rfl ?_
        rw [hpayload, ← answerByte_of_read hsubject hcode]
        rfl
      · cases h
    · cases h
  · next hkind =>
    split at h
    · next hpayload =>
      dsimp only at h
      split at h
      · next hcls =>
        obtain ⟨d, hd, h⟩ := Option.bind_eq_some_iff.mp h
        cases h
        exact Frame.ext_fields hcls.symm rfl (stationDst_of_stationOf hd) (Fin.ext hkind.symm) rfl hpayload.symm
      · cases h
    · cases h
  · next hkind =>
    split at h
    · next groups flags hpayload =>
      split at h
      · next hfields =>
        obtain ⟨hcls, hdst⟩ := hfields
        cases h
        exact Frame.ext_fields hcls.symm rfl hdst.symm (Fin.ext hkind.symm) rfl hpayload.symm
      · cases h
    · cases h
  · cases h

theorem natOf_lt (bits : List Bool) : natOf bits < 2 ^ bits.length := by
  induction bits with
  | nil => exact Nat.one_pos
  | cons b bits ih =>
    have hb : b.toNat ≤ 1 := Bool.toNat_le b
    have hhead : b.toNat * 2 ^ bits.length ≤ 1 * 2 ^ bits.length := Nat.mul_le_mul_right _ hb
    rw [natOf_cons, List.length_cons, Nat.pow_succ]
    omega

theorem fieldAt_lt (c : List Bool) (off w : Nat) : fieldAt c off w < 2 ^ w :=
  (natOf_lt _).trans_le (Nat.pow_le_pow_right (by omega) (List.length_take_le _ _))

/-- What the closing checks accept, and the frame they give (Tables 2-5 and 2-6). -/
theorem checkClosed_some {stuffDue : Bool} {crc : BitVec 16} {c : List Bool} {m : Msg} (h : checkClosed stuffDue crc c = some m) :
    stuffDue = false ∧ 42 ≤ c.length ∧ natOf (c.drop (c.length - 16)) = crc.toNat ∧ c.length = 42 + 8 * fieldAt c 19 7 ∧
    m.valid = true ∧ m.toFrame = frameOfContent c := by
  unfold checkClosed at h
  split at h
  · cases h
  · next hdue =>
    split at h
    · cases h
    · next hshort =>
      split at h
      · cases h
      · next hcrc =>
        split at h
        · cases h
        · next hlen =>
          obtain ⟨hread, hvalid⟩ := Option.filter_eq_some_iff.mp h
          have hlong : ¬ c.length < 42 := hshort
          exact ⟨by simpa using hdue, by omega, not_not.mp hcrc, not_not.mp hlen, hvalid, toFrame_of_read hread⟩

/-! ### A frame closes at a sample (O23) -/

section
variable {s : State}

/-- A closing mark at the Frame Receiver (R28). -/
theorem receive_of_mark (hgather : s.fr.state = .gather) (own : Bool) : s.receive own dominant (some .mark) =
    ({ s with fr := .reset } : State).onClosed own s.fr.stuffDue s.fr.crc s.fr.content := by
  have hsample : s.fr.sample dominant (some .mark) = (.reset, .closed s.fr.stuffDue s.fr.crc s.fr.content) := by
    simp only [FrameReceiver.sample, hgather, FrameReceiver.seeking]
  unfold State.receive
  rw [hsample]

theorem withSrc_src (m : Msg) : m.withSrc m.src = m := by cases m <;> rfl

end

/-- Settles O23. -/
theorem frameClose : Obligations.FrameClose := by
  refine ⟨fun s hopen hs hgather hp hrun hfirst => ?_, fun stuffDue crc c m h => ?_⟩
  · have hmark := report_of_mark hp hrun hfirst
    have hafter := afterSample_of_mark hs hp hrun
    have hevent := noLineEvent_of_mark hs hrun
    have hdue : decide (s.fr.state = .gather ∧ s.lm.reportOn dominant = some .mark) = true := decide_eq_true ⟨hgather, hmark⟩
    have hexec : exec .frameClose s = .next (s.takeSample dominant) := congrArg Host.Outcome.next (sampleIf_of_due hopen hdue)
    have hidle : s.tu.state = .wait → exec .frameClose s =
        .next ((marked s).onClosed false s.fr.stuffDue s.fr.crc s.fr.content) := fun hwait => by
      have hown : s.ownClosing dominant = false := decide_eq_false (by rw [readback_wait hwait]; decide)
      rw [hexec, takeSample_of_noEvent hevent, hafter, onReadback_wait (s := { s with lm := .atMark }) hwait, hown, hmark,
        receive_of_mark (s := { s with lm := .atMark }) hgather]
      rfl
    refine ⟨fun hwait hnone => ?_, fun m hwait hsome => ⟨fun hsrc => ?_, fun hsrc => ?_⟩, fun hst hlout hlast => ?_⟩
    · rw [hidle hwait, State.onClosed, hnone]
    · obtain ⟨-, -, -, -, hvalid, -⟩ := checkClosed_some hsome
      rw [hidle hwait, State.onClosed, hsome, exec_rowOf, State.frameCloses, if_neg (by simp [hopen.1]), if_pos hvalid]
      rfl
    · obtain ⟨-, -, -, -, hvalid, -⟩ := checkClosed_some hsome
      have hown : m.withSrc s.mu.number = m := by rw [← hsrc, withSrc_src]
      rw [hidle hwait, State.onClosed, hsome, exec_clash hopen.1 (by rw [hown]; exact hvalid)]
      exact congrArg Host.Outcome.next (if_pos hsrc)
    · have hread := readback_finished hst hlout hlast
      have hreset : (s.fr.sample dominant (s.lm.reportOn dominant)).1 = .reset := by
        rw [hmark]
        simp only [FrameReceiver.sample, hgather, FrameReceiver.seeking]
      rw [hexec, takeSample_of_finished hevent hread, hreset, hafter]
  · obtain ⟨hdue, hlong, hcrc, hlen, hvalid, hframe⟩ := checkClosed_some h
    have htail : fieldAt c (c.length - 16) 16 = natOf (c.drop (c.length - 16)) := by
      rw [fieldAt, List.take_of_length_le (by rw [List.length_drop]; omega)]
    have hfield : ∀ off w, fieldAt c off w % 2 ^ w = fieldAt c off w := fun off w => Nat.mod_eq_of_lt (fieldAt_lt c off w)
    refine ⟨hdue, hlong, hlen, htail.trans hcrc, hvalid, ?_, ?_, ?_, ?_, ?_, by rw [hframe]⟩
    all_goals rw [hframe]
    · exact hfield 2 5
    · exact hfield 0 2
    · exact hfield 7 6
    · exact hfield 13 3
    · exact hfield 16 3

end Sys2Proof.Machine
end
